-- ==== Sys2Proof/Word.lean ====
section
/-!
DEFINITION. The words of the part and the four-fold data of its lanes: bytes, converter codes, identities, and
`PerLane`, one value for each of the lanes 1 to 4.
-/

namespace Sys2Proof

/-- A byte of the host link or of a plug line. -/
abbrev Byte := BitVec 8

/-- A code of the 12-bit measurement converter (chapter 2). -/
abbrev Code := BitVec 12

/-- A device's 48-bit factory identity (R66). -/
abbrev Identity := BitVec 48

/-- The lanes, numbered 1 to 4 everywhere (00_scope.md 5.2). -/
inductive Lane where
  | one | two | three | four
deriving DecidableEq, Repr

/-- The number by which the part reports a lane. -/
def Lane.number : Lane → Nat
  | .one => 1
  | .two => 2
  | .three => 3
  | .four => 4

/-- All lanes, in lane order. -/
def Lane.all : List Lane := [.one, .two, .three, .four]

/-- One value for each lane. -/
structure PerLane (α : Type) where
  one : α
  two : α
  three : α
  four : α
deriving DecidableEq, Repr

namespace PerLane

/-- The same value for every lane. -/
def fill {α : Type} (a : α) : PerLane α := ⟨a, a, a, a⟩

/-- The value of one lane. -/
def get {α : Type} (p : PerLane α) : Lane → α
  | .one => p.one
  | .two => p.two
  | .three => p.three
  | .four => p.four

/-- The values with one lane's value replaced. -/
def set {α : Type} (p : PerLane α) (n : Lane) (a : α) : PerLane α :=
  match n with
  | .one => { p with one := a }
  | .two => { p with two := a }
  | .three => { p with three := a }
  | .four => { p with four := a }

/-- A function applied to every lane's value. -/
def map {α β : Type} (f : α → β) (p : PerLane α) : PerLane β :=
  ⟨f p.one, f p.two, f p.three, f p.four⟩

/-- The values in lane order. -/
def toList {α : Type} (p : PerLane α) : List α := [p.one, p.two, p.three, p.four]

end PerLane

end Sys2Proof
end

