-- ==== Sys2Proof/Syntax.lean ====
section
/-!
DEFINITION. The commands of the part: one constructor of `Instr` for each row of spec/opcode_table.json, with the
row's operands. What an event's operand stands for is what the outside shows the part at that event; what a
request's operand stands for is a field of the host frame, as the host link clocks it (section 11.6).
-/

namespace Sys2Proof

/-- The mate comparator reading (R1, R2). -/
inductive Reading where
  | mated | opened
deriving DecidableEq, Repr

/-- What is on a lane's sense contact: nothing, or a resistance in ohms, a fraction of an ohm counted as a whole
one (log 17). -/
inductive Contact where
  | bare
  | resistance (ohms : Nat)
deriving DecidableEq, Repr

/-- The causes of a reset (R175, R180). -/
inductive ResetCause where
  | powerOn | resetPin | restartRequest
deriving DecidableEq, Repr

/-- The three moments of a hardware reset (R180, log 7): power-on, whole; RESETN held low, from its fall on; RESETN
released. -/
inductive ResetMoment where
  | powerOn | held | released
deriving DecidableEq, Repr

/-- How the line departs from what the part drives (R62): LCK read LOW in the start slot; LDA read LOW where the part
released it in a bit of its own; LDA seen to change while LCK is high in a bit slot; LDA read LOW at the end of the
stop slot. -/
inductive CollisionCause where
  | clockLow | readLow | changed | heldAtStop
deriving DecidableEq, Repr

/-- Where an attempt stalls (R58): the slot's number, the start slot being slot 1, and whether it is the stop slot. -/
structure StallSlot where
  number : Nat
  stopping : Bool
deriving DecidableEq, Repr

/-- Where an attempt collides (R62): the slot's number, the start slot being slot 1, and how the line departs there. -/
structure CollisionSlot where
  number : Nat
  cause : CollisionCause
deriving DecidableEq, Repr

/-- One pair of a CONFIGURE request: a setting id and a 16-bit value (R175). -/
structure SettingPair where
  id : Byte
  value : BitVec 16
deriving DecidableEq, Repr

/-- The slot fields of a CAT_SLOT request as they stand in its payload after the tool number (section 11.6):
8 name bytes, then one byte each but for the 48-bit pin. -/
structure SlotBytes where
  name : List Byte
  lane : Byte
  cls : Byte
  parent : Byte
  leg : Byte
  required : Byte
  pinFlag : Byte
  pin : Identity
  ordinal : Byte
deriving DecidableEq, Repr

/-- The commands. `tag` is the host frame's tag, echoed in the reply (R169). -/
inductive Instr where
  /-- MATE_EVENT (R2, R3): the contact of a lane now carries this and the comparator turns MATED. -/
  | mateEvent (lane : Lane) (contact : Contact)
  /-- OPEN_EVENT (R2, R15): the contact of a lane now carries this and the comparator turns OPEN. -/
  | openEvent (lane : Lane) (contact : Contact)
  /-- TRIP_EVENT (R45): the lane's current has come to this many mA, a fraction counted as a whole one. -/
  | tripEvent (lane : Lane) (milliamps : Nat)
  /-- SETTLE_TIMER_EXPIRY (R3, R15). -/
  | settleTimerExpiry (lane : Lane)
  /-- GRANT_WINDOW_EXPIRY (R5). -/
  | grantWindowExpiry (lane : Lane)
  /-- INRUSH_WINDOW_EXPIRY (R44, R45): with the lane's current at that moment, in mA. -/
  | inrushWindowExpiry (lane : Lane) (milliamps : Nat)
  /-- SAMPLE_DUE_INSTANT (R44). -/
  | sampleDueInstant (lane : Lane)
  /-- BOOT_WAIT_EXPIRY (R9). -/
  | bootWaitExpiry (lane : Lane)
  /-- REMATE_HOLD_EXPIRY (R14). -/
  | remateHoldExpiry (lane : Lane)
  /-- POINT_JOB_COMPLETION (R37): the voltage code of the point job in progress, and what its lane's contact
  carries at the completion. -/
  | pointJobCompletion (code : Code) (contact : Contact)
  /-- SAMPLE_JOB_COMPLETION (R46): the current and voltage codes of the sample job in progress. -/
  | sampleJobCompletion (current : Code) (voltage : Code)
  /-- IDLE_CHECK_PASSED (R61). -/
  | idleCheckPassed (lane : Lane)
  /-- LINE_STUCK (R83). -/
  | lineStuck (lane : Lane)
  /-- STALL (R58). -/
  | stall (lane : Lane) (slot : StallSlot)
  /-- COLLISION (R62). -/
  | collision (lane : Lane) (slot : CollisionSlot)
  /-- ATTEMPT_END (R79): what the line gave the part up to a good stop: for each byte the part sends, in order
  from the header, whether its acknowledge was driven; and the bytes the devices sent. -/
  | attemptEnd (lane : Lane) (acks : List Bool) (bytes : List Byte)
  /-- CLOSING_STOP (R63). -/
  | closingStop (lane : Lane)
  /-- CLOSING_GIVEN_UP (R63). -/
  | closingGivenUp (lane : Lane)
  /-- ROLL_CALL_PERIOD_EXPIRY (R134). -/
  | rollCallPeriodExpiry (lane : Lane)
  /-- CHIP_SELECT_FALL (R170). -/
  | chipSelectFall
  /-- CHIP_SELECT_RISE (R169): what SDI carried at each rising edge of SCK in the window, in order. -/
  | chipSelectRise (sdi : List Bool)
  /-- HARDWARE_RESET (R180): the moment; what each contact carries where the reset ends with it; and at power-on whether
  CSN is low at its end. -/
  | hardwareReset (moment : ResetMoment) (contacts : PerLane Contact) (csnLow : Bool)
  /-- STATUS (R175). -/
  | status (tag : Byte)
  /-- CONFIGURE (R176). -/
  | configure (tag : Byte) (pairs : List SettingPair)
  /-- GRANT, an action of LANE_CONTROL (R5, R7). -/
  | grant (tag : Byte) (lane : Byte)
  /-- REWALK, an action of LANE_CONTROL (R7, R11). -/
  | rewalk (tag : Byte) (lane : Byte)
  /-- CLEAR, an action of LANE_CONTROL (R7, R17). -/
  | clear (tag : Byte) (lane : Byte)
  /-- LANE_READ (R175). -/
  | laneRead (tag : Byte) (lane : Byte)
  /-- ROSTER (R130). -/
  | roster (tag : Byte) (startLane : Byte) (startHandle : Byte)
  /-- DEVICE_READ (R177). -/
  | deviceRead (tag : Byte) (lane : Byte) (handle : Byte) (offset : Byte) (count : Byte)
  /-- DEVICE_CLEAR (R128). -/
  | deviceClear (tag : Byte) (lane : Byte) (handle : Byte)
  /-- CAT_TOOL (R145). -/
  | catTool (tag : Byte) (number : Byte) (key : Identity) (expectations : PerLane Byte)
  /-- CAT_SLOT (R146). -/
  | catSlot (tag : Byte) (number : Byte) (slot : SlotBytes)
  /-- CAT_DROP (R148). -/
  | catDrop (tag : Byte) (number : Byte)
  /-- CAT_READ (R150). -/
  | catRead (tag : Byte) (number : Byte) (start : Byte)
  /-- NAME_NOW (R167). -/
  | nameNow (tag : Byte)
  /-- MATCH_READ (R167). -/
  | matchRead (tag : Byte)
  /-- RESTART (R179). -/
  | restart (tag : Byte)
deriving DecidableEq, Repr

end Sys2Proof
end

