-- ==== Sys2Proof/Decode.lean ====
section
/-!
DEFINITION. What a word spells by the table's bits. spec/opcode_table.json gives no row any bits, so no word spells a
command. (The frames of the host link are not words of the table; Machine/Port.lean decodes them by R171.)
-/

namespace Sys2Proof

/-- The command that a word spells by the table's bits: none, since no row has bits. -/
def decodeTableWord (_nbits _w : Nat) : Option Instr := none

end Sys2Proof
end

