-- ==== Sys2Proof/Machine/Crc.lean ====
section
/-!
DEFINITION. The check byte of the plug line (R67).
-/

namespace Sys2Proof.Machine

/-- R67: one of the eight steps: a shift left by one place, combined with 07h when the top bit was 1. -/
def crcStep (v : Byte) : Byte := if v.msb then (v <<< 1) ^^^ 0x07 else v <<< 1

/-- R67: one byte is combined into the running value. -/
def crcByte (v b : Byte) : Byte :=
  crcStep (crcStep (crcStep (crcStep (crcStep (crcStep (crcStep (crcStep (v ^^^ b))))))))

/-- R67: the CRC-8 of bytes in their order on the line, from 00h. -/
def crc8 (bytes : List Byte) : Byte := bytes.foldl crcByte 0

end Sys2Proof.Machine
end

