-- ==== Sys2Proof/Machine/Bits.lean ====
section
/-!
DEFINITION. Bytes and their bits, most significant first, as both links carry them (R60, R169).
-/

namespace Sys2Proof.Machine

/-- The bits of a byte, most significant first. -/
def bitsOfByte (b : Byte) : List Bool := [7, 6, 5, 4, 3, 2, 1, 0].map fun i => b.getLsbD i

/-- The bits of bytes, in their order on a link. -/
def bitsOf (bytes : List Byte) : List Bool := bytes.flatMap bitsOfByte

/-- The byte of eight bits, most significant first. -/
def byteOf (bs : List Bool) : Byte := BitVec.ofNat 8 (bs.foldl (fun a b => 2 * a + b.toNat) 0)

/-- The bytes of bits, eight at a time. -/
def bytesOfBits : Nat → List Bool → List Byte
  | 0, _ => []
  | k + 1, bs => byteOf (bs.take 8) :: bytesOfBits k (bs.drop 8)

/-- The whole bytes among bits. -/
def wholeBytes (bs : List Bool) : List Byte := bytesOfBits (bs.length / 8) bs

end Sys2Proof.Machine
end

