-- ==== Sys2Proof/Config.lean ====
section
/-!
DEFINITION. The fixed figures of the part: what no setting changes. Times are in ms unless said otherwise.
The spec leaves no result value open, so there is no free value here.
-/

namespace Sys2Proof.Config

/-- The largest resistance the mate comparator reads as MATED, in ohms (R2). -/
def mateOhms : Nat := 60000
/-- The grant window (R5). -/
def grantWindow : Nat := 500
/-- The inrush window (R8, R44). -/
def inrushWindow : Nat := 50
/-- The sample period (R44). -/
def samplePeriod : Nat := 10
/-- The least voltage code that passes power good and is not low supply (R47, R49). -/
def goodVoltage : Nat := 2700
/-- The overload accumulator's limit, step up and step down (R48). -/
def overloadLimit : Nat := 60
def overloadUp : Nat := 10
def overloadDown : Nat := 2
/-- The low-supply count that faults (R49). -/
def lowSupplyLimit : Nat := 3
/-- The mate comparator's bias on a sense contact, in µA (R2, R23). -/
def biasCurrent : Nat := 10
/-- The currents that the point jobs P1 and P2 force into a sense contact, in µA (R23). -/
def p1Current : Nat := 100
def p2Current : Nat := 300
/-- The clipped converter code (R23). -/
def clipped : Nat := 4095
/-- The slope at or above which a measurement is OPEN (R26). -/
def openSlope : Int := 2400
/-- The largest SHORT slope (R26). -/
def shortSlope : Int := 39
/-- The largest difference of the slopes of a VALID attempt (R27). -/
def spreadLimit : Nat := 16
/-- Ohms for one code of slope (R25). -/
def ohmsPerSlope : Int := 25
/-- The attempts of a series (R28). -/
def seriesAttempts : Nat := 3
/-- Handles of a lane (R64, R121). -/
def handleCount : Nat := 30
/-- The handle that all bound devices answer (R64). -/
def allHandle : Nat := 31
/-- Entry slots of the device table (R116). -/
def tableSlots : Nat := 48
/-- The greatest depth of the walk stack (R91). -/
def walkDepth : Nat := 2
/-- The device class of a junction (R66). -/
def junctionClass : Byte := 1
/-- Tools and pool places of the catalogue (R143). -/
def toolCount : Nat := 8
def poolPlaces : Nat := 64
/-- The replies, queued and owed, the port holds (R171, R173). -/
def replyLimit : Nat := 8
/-- The most bytes of one PEEK chunk and of one device memory read (R72, R177). -/
def chunkLimit : Nat := 16
def readLimit : Nat := 128
/-- The bytes of a device's memory space (R72, R177). -/
def memorySpace : Nat := 256
/-- The entries of a ROSTER reply and the slots of a CAT_READ reply (R130, R150). -/
def rosterLimit : Nat := 8
def slotReadLimit : Nat := 10
/-- The longest payload of a host frame (R171). -/
def payloadLimit : Nat := 248
/-- The most pairs of a CONFIGURE request (R175). -/
def pairLimit : Nat := 20
/-- Where one-byte and two-byte counts saturate (R109, R117, R129, R173). -/
def byteCount : Nat := 255
def wordCount : Nat := 65535

end Sys2Proof.Config
end

