-- ==== Sys2Proof/Machine/State.lean ====
section
/-!
DEFINITION. The state of the part, block by block as the spec gives it, the reasons a step can stop, and the state
right after reset. Everything is plain data. What the spec derives from other state (the away position, reservations
and holds, catalogue counts, ATTN, the trip comparator's arming) is not stored twice (log 19).
-/

namespace Sys2Proof.Machine

/-! ## Reasons to stop -/

/-- No command of the part stops it: every row of the table has an effect in every state. A lane's faults are values
of its fault code register (R16). -/
inductive Fault where
deriving DecidableEq, Repr

/-- Why a command has no meaning. -/
inductive Refusal where
  /-- Raised by an arm of exec alone, for a row with no meaning yet. Safe: the model stops where the part goes on. -/
  | notModelled (mnemonic : String)
deriving DecidableEq, Repr

/-! ## Timers and small values -/

/-- A timer: stopped, or running with the interval in ms it was started with (log 2). -/
inductive Timer where
  | stopped
  | running (ms : Nat)
deriving DecidableEq, Repr

/-- The tool's supply classes (R26). -/
inductive SupplyClass where
  | a | b | c | d
deriving DecidableEq, Repr

/-- The legs of a junction (R73). -/
inductive Leg where
  | a | b
deriving DecidableEq, Repr

/-! ## Lane controller and signature record (R1, R30) -/

/-- The lane states (R1). -/
inductive LaneState where
  | off | empty | settling | signature | awaitGrant | powering | walking | ready | parting | fault
deriving DecidableEq, Repr

/-- The signature mark (R1, R5). -/
inductive Mark where
  | fresh | stale
deriving DecidableEq, Repr

/-- The fault codes (R16). -/
inductive FaultCode where
  | none | short | overload | noPowerGood | supplyLow | signatureBad | signatureShort | lineStuck
deriving DecidableEq, Repr

/-- The reasons of lane transitions (R19). -/
inductive Reason where
  | mated | opened | settled | signatureValid | classChanged | granted | powerGood | bootDone | walkDone
  | rewalkRequested | sweepAnswer | faulted | cleared | parted | disabled | enabled
deriving DecidableEq, Repr

/-- A measurement's verdict (R26). -/
inductive MeasurementVerdict where
  | opened | noisy | short | ambiguous
  | ofClass (cls : SupplyClass)
deriving DecidableEq, Repr

/-- An attempt's verdict (R27). -/
inductive AttemptVerdict where
  | valid | signatureShort | spread
  | failed (m2 : MeasurementVerdict)
deriving DecidableEq, Repr

/-- A series' final verdict (R28, R30). -/
inductive FinalVerdict where
  | none | valid | signatureShort | signatureBad
deriving DecidableEq, Repr

/-- One measurement of the signature record (R30). -/
structure Measurement where
  v1 : Option Code
  v2 : Option Code
  slope : Option Int
  verdict : Option MeasurementVerdict
deriving DecidableEq, Repr

/-- A measurement of which nothing is written. -/
def Measurement.absent : Measurement := { v1 := .none, v2 := .none, slope := .none, verdict := .none }

/-- The signature record of a lane (R30). -/
structure SignatureRecord where
  attempts : Nat
  m1 : Measurement
  m2 : Measurement
  attemptVerdict : Option AttemptVerdict
  final : FinalVerdict
  cls : Option SupplyClass
  slope : Option Int
  resistance : Option Int
deriving DecidableEq, Repr

/-- The cleared record (R31): verdict NONE, 0 attempts, every other field absent. -/
def SignatureRecord.cleared : SignatureRecord :=
  { attempts := 0, m1 := Measurement.absent, m2 := Measurement.absent, attemptVerdict := .none, final := .none
    cls := .none, slope := .none, resistance := .none }

/-- The state of a lane controller (R1), with the boot wait of R9. The settings of R1 stand in `Settings`. -/
structure LaneCtl where
  state : LaneState
  reading : Reading
  settle : Timer
  grantWindow : Timer
  mark : Mark
  grantPending : Option SupplyClass
  record : SignatureRecord
  fault : FaultCode
  hold : Timer
  bootWait : Timer
  rewalkWaiting : Bool
deriving DecidableEq, Repr

/-! ## Supply supervisor (R40) -/

/-- The lane switch; SWGn follows it (R41). -/
inductive Switch where
  | opened | closed
deriving DecidableEq, Repr

/-- The supervision phases (R40). -/
inductive SupplyPhase where
  | idle | inrush | check | policing
deriving DecidableEq, Repr

/-- The state of a supply supervisor (R40). -/
structure Supervisor where
  switch : Switch
  phase : SupplyPhase
  cls : Option SupplyClass
  inrush : Timer
  samplePeriod : Timer
  current : Code
  voltage : Code
  overload : Nat
  lowCount : Nat
deriving DecidableEq, Repr

/-! ## Measurement converter (R35) -/

/-- The two kinds of point job, which differ in the current they force (R23). -/
inductive Point where
  | p1 | p2
deriving DecidableEq, Repr

/-- The kinds of converter job (R23, R34). -/
inductive JobKind where
  | point (which : Point)
  | sample
deriving DecidableEq, Repr

/-- The job in progress. `live` is the model's: it is cleared when the lane leaves what asked for the job, so that
R37's "same series" and "since the job was placed" need no argument from time (log 11). -/
structure Job where
  lane : Lane
  kind : JobKind
  live : Bool
deriving DecidableEq, Repr

/-- The converter and its arbiter (R35). A lane's point job pending flag is set while it holds the kind of the point job
that the lane has placed. -/
structure Converter where
  pointPending : PerLane (Option Point)
  samplePending : PerLane Bool
  job : Option Job
  lastServed : Lane
deriving DecidableEq, Repr

/-! ## Line engine, line arbiter, transfer slot (R54, R77, R84, R88) -/

/-- The calls of the plug line (R64). -/
inductive Call where
  | enrol | bind | probe | peek | leg | release
deriving DecidableEq, Repr

/-- The line rates, in kbit/s (R55). -/
inductive LineRate where
  | k25 | k50 | k100 | k200
deriving DecidableEq, Repr

/-- What the part does to a wire (R54). -/
inductive Drive where
  | low | released
deriving DecidableEq, Repr

/-- The engine's phases (R77). -/
inductive EnginePhase where
  | idle | idleCheck | start | header | callOut | callIn | arbitrate | stop | closing
deriving DecidableEq, Repr

/-- Who asks for the line (chapter 5): the lane's procedure (walk or roll call) or its transfer slot. -/
inductive Requester where
  | procedure | transfer
deriving DecidableEq, Repr

/-- A transaction that a requester asks for (R84): the call, the header's handle, the bytes to send after it. -/
structure LineRequest where
  call : Call
  handle : Nat
  out : List Byte
deriving DecidableEq, Repr

/-- The transaction in flight (R77). -/
structure Transaction where
  request : LineRequest
  requester : Requester
  retryLimit : Nat
  attempt : Nat
deriving DecidableEq, Repr

/-- How an attempt ends (R75). -/
inductive Outcome where
  | done | noAck | badCheck | stall | collision
deriving DecidableEq, Repr

/-- What an attempt hands the engine (R75). -/
structure AttemptResult where
  outcome : Outcome
  failedByte : Option Nat
  bytesRead : Option (List Byte)
  bitTimes : Nat
deriving DecidableEq, Repr

/-- How a transaction ends (R81). -/
inductive TransactionResult where
  | done | range | failed
deriving DecidableEq, Repr

/-- What the engine hands its requester (R81). -/
structure TransactionReport where
  result : TransactionResult
  lastOutcome : Option (Outcome × Option Nat)
  bytesRead : Option (List Byte)
  attempts : Nat
deriving DecidableEq, Repr

/-- A stage of a slot: the engine's phase, and what the part does to LCK and LDA throughout it (R54, R56, R57, R59, R77). -/
structure WireStage where
  phase : EnginePhase
  lck : Drive
  lda : Drive
deriving DecidableEq, Repr

/-- A lane's line engine (R77) with the drive states of its wires (R54). `handed` is the latest attempt result of
R75 (log 23). `driven` is the stages through which the part took the wires in the latest attempt to end, or in the
latest closing stop (log 10). -/
structure Engine where
  phase : EnginePhase
  inFlight : Option Transaction
  rateInUse : Option LineRate
  stallInUse : Option Nat
  lastFailed : Option (Outcome × Option Nat)
  handed : Option AttemptResult
  driven : List WireStage
  lck : Drive
  lda : Drive
deriving DecidableEq, Repr

/-- The line arbiter's last grant (R84). -/
inductive LastGrant where
  | none | procedure | transfer
deriving DecidableEq, Repr

/-- A lane's line arbiter (R84). -/
structure LineArbiter where
  procedure : Option LineRequest
  transfer : Option LineRequest
  lastGrant : LastGrant
deriving DecidableEq, Repr

/-- A device memory read (R88). The next offset is the starting offset plus the number of bytes read. -/
structure Read where
  handle : Nat
  offset : Nat
  count : Nat
  bytes : List Byte
deriving DecidableEq, Repr

/-- A lane's transfer slot (R88). -/
inductive TransferSlot where
  | free
  | busy (read : Read)
deriving DecidableEq, Repr

/-! ## Walk unit (R91, R109) -/

/-- The walk unit's phases (R91). -/
inductive WalkPhase where
  | idle | releasing | rounds | binding | junctions | finishing
deriving DecidableEq, Repr

/-- A segment's junction list: handles ascending, and how many of them have been taken (R91). -/
structure JunctionList where
  handles : List Nat
  taken : Nat
deriving DecidableEq, Repr

/-- The list of a fresh segment. -/
def JunctionList.empty : JunctionList := { handles := [], taken := 0 }

/-- A frame of the walk stack (R91) with the junction list of the segment beyond it. -/
structure Frame where
  junction : Nat
  leg : Leg
  list : JunctionList
deriving DecidableEq, Repr

/-- Whether a record being bound is new to the lane (R96). -/
inductive BindingKind where
  | new | refound
deriving DecidableEq, Repr

/-- The pending binding (R91). A NEW one is the table's reservation and a REFOUND one its hold (R116). -/
structure PendingBinding where
  identity : Identity
  cls : Byte
  handle : Nat
  kind : BindingKind
deriving DecidableEq, Repr

/-- The walk record's outcomes (R109). -/
inductive WalkOutcome where
  | none | running | complete | incomplete | aborted
deriving DecidableEq, Repr

/-- The reasons a walk can note (R109). -/
inductive WalkReason where
  | enrolFailed | depthLimit | legFailed | tableFull | handlesExhausted | lineFault
deriving DecidableEq, Repr

/-- A set of walk reasons (R109). -/
structure WalkReasons where
  enrolFailed : Bool
  depthLimit : Bool
  legFailed : Bool
  tableFull : Bool
  handlesExhausted : Bool
  lineFault : Bool
deriving DecidableEq, Repr

/-- The empty reason set. -/
def WalkReasons.empty : WalkReasons := ⟨false, false, false, false, false, false⟩

/-- The walk record (R109). -/
structure WalkRecord where
  outcome : WalkOutcome
  reasons : WalkReasons
  rounds : Nat
  failedRounds : Nat
  added : Nat
  refound : Nat
  removed : Nat
deriving DecidableEq, Repr

/-- A record with every count 0 and no reason. -/
def WalkRecord.start (outcome : WalkOutcome) : WalkRecord :=
  { outcome, reasons := WalkReasons.empty, rounds := 0, failedRounds := 0, added := 0, refound := 0, removed := 0 }

/-- A lane's walk unit (R91). The stack's head is its most recent frame. -/
structure WalkUnit where
  phase : WalkPhase
  stack : List Frame
  root : JunctionList
  failedInRow : Nat
  releases : Nat
  binding : Option PendingBinding
  record : WalkRecord
deriving DecidableEq, Repr

/-! ## Roll-call unit (R132) -/

/-- The roll-call unit's phases (R132). -/
inductive RollPhase where
  | inactive | waiting | sweeping | probing | halted
deriving DecidableEq, Repr

/-- A lane's roll-call unit (R132). -/
structure RollCall where
  phase : RollPhase
  period : Timer
  deferred : Bool
  position : Option Nat
  used : Nat
deriving DecidableEq, Repr

/-! ## A lane's column -/

/-- The blocks of which the part holds one for each lane (00_scope.md 2.1). -/
structure Column where
  ctl : LaneCtl
  supervisor : Supervisor
  engine : Engine
  arbiter : LineArbiter
  slot : TransferSlot
  walk : WalkUnit
  roll : RollCall
deriving DecidableEq, Repr

/-! ## Device table (R116, R117) -/

/-- The entry states (R118). -/
inductive EntryState where
  | present | lost | away
deriving DecidableEq, Repr

/-- An entry's flags (R117). -/
structure EntryFlags where
  junction : Bool
  depthLimit : Bool
  legFailed : Bool
  degraded : Bool
deriving DecidableEq, Repr

/-- A tool number and a slot index (R117). -/
structure SlotRef where
  tool : Nat
  index : Nat
deriving DecidableEq, Repr

/-- The lane and handle by which the table is read (R116). -/
structure EntryKey where
  lane : Lane
  handle : Nat
deriving DecidableEq, Repr

/-- An entry of the device table (R117). Its away position is derived from the away list (R120). -/
structure Entry where
  key : EntryKey
  identity : Identity
  cls : Byte
  state : EntryState
  depth : Nat
  parent : Nat
  leg : Option Leg
  flags : EntryFlags
  miss : Nat
  errors : Nat
  status : Option Byte
  name : Option (List Byte)
  slotRef : Option SlotRef
deriving DecidableEq, Repr

/-- The device table (R116): its entries in reporting order (R130), and the away list, earliest first (R120). -/
structure DeviceTable where
  entries : List Entry
  away : List EntryKey
deriving DecidableEq, Repr

/-! ## Tool catalogue (R143, R144) -/

/-- What a tool states about a lane (R143). -/
inductive Expectation where
  | any | nothing
  | ofClass (cls : SupplyClass)
deriving DecidableEq, Repr

/-- How a slot is filled: by a pin or by ordinal (R144). -/
inductive Filling where
  | pin (identity : Identity)
  | ordinal (k : Nat)
deriving DecidableEq, Repr

/-- A slot of a tool description (R144). Its index is 1 plus the number of slots before it. -/
structure Slot where
  name : List Byte
  lane : Lane
  cls : Byte
  parent : Nat
  leg : Option Leg
  required : Bool
  filling : Filling
  depth : Nat
deriving DecidableEq, Repr

/-- A tool description (R143). -/
structure Tool where
  number : Nat
  key : Identity
  expects : PerLane Expectation
  slots : List Slot
deriving DecidableEq, Repr

/-- The tool catalogue (R143): the defined tools by ascending number. -/
structure Catalogue where
  tools : List Tool
deriving DecidableEq, Repr

/-! ## Naming unit (R152) -/

/-- The outcomes of a naming pass (R152). -/
inductive MatchOutcome where
  | detached | noTool | ambiguous | mismatch | incomplete | named
deriving DecidableEq, Repr

/-- The tool match record (R152); tool number 0 is no tool. -/
structure MatchRecord where
  generation : Nat
  tool : Nat
  outcome : MatchOutcome
  key : Option EntryKey
  matched : Nat
  surplus : Nat
  unmatched : List Nat
deriving DecidableEq, Repr

/-- The naming unit (R152). -/
structure Naming where
  record : MatchRecord
  passPending : Bool
deriving DecidableEq, Repr

/-! ## Host link port (R169 to R174) -/

/-- Whether link flags are set (R172). -/
structure LinkFlags where
  short : Bool
  full : Bool
deriving DecidableEq, Repr

/-- The status codes of replies (11.6). -/
inductive Status where
  | ok | malformed | refusedState | busy | noEntry | full | conflict | notFound | lineError | range | laneGone
deriving DecidableEq, Repr

/-- A reply (R169): tag, request code, status, payload. -/
structure Reply where
  tag : Byte
  code : Byte
  status : Status
  payload : List Byte
deriving DecidableEq, Repr

/-- The contents of a LANE_STATE notice (R173). -/
structure LaneStateNotice where
  state : LaneState
  reason : Reason
  count : Nat
  signature : Option (SupplyClass × Int)
  powerGood : Option Code
deriving DecidableEq, Repr

/-- The contents of a LANE_FAULT notice (R52, R173). -/
structure LaneFaultNotice where
  code : FaultCode
  current : Code
  voltage : Code
deriving DecidableEq, Repr

/-- The contents of a ROSTER notice (R129). -/
structure RosterNotice where
  added : Nat
  removed : Nat
  changed : Nat
deriving DecidableEq, Repr

/-- The contents of a NAMING notice (R165). -/
structure NamingNotice where
  generation : Nat
  tool : Nat
  outcome : MatchOutcome
  matched : Nat
  missing : Nat
  surplus : Nat
deriving DecidableEq, Repr

/-- The 14 sources and kinds of notice (R173). -/
inductive NoticeKey where
  | laneState (lane : Lane)
  | laneFault (lane : Lane)
  | roster (lane : Lane)
  | naming
  | restarted
deriving DecidableEq, Repr

/-- A notice with its source, kind and contents (R173). -/
inductive Notice where
  | laneState (lane : Lane) (c : LaneStateNotice)
  | laneFault (lane : Lane) (c : LaneFaultNotice)
  | roster (lane : Lane) (c : RosterNotice)
  | naming (c : NamingNotice)
  | restarted (cause : ResetCause)
deriving DecidableEq, Repr

/-- A waiting slot of the notice set (R173). -/
structure NoticeSlot where
  notice : Notice
  updated : Bool
deriving DecidableEq, Repr

/-- A frame held in the outgoing buffer (R170). -/
inductive HeldFrame where
  | reply (r : Reply)
  | notice (n : Notice)
deriving DecidableEq, Repr

/-- The chip-select window (R169, R180). `clocking`: CSN is low, the part clocks these bytes, and the frame carried
these link flags. `ignored`: CSN is low, in a window that falls while RESETN is low or spans a reset's end. -/
inductive Window where
  | closed
  | ignored
  | clocking (bytes : List Byte) (carried : LinkFlags)
deriving DecidableEq, Repr

/-- The host link port (R169 to R174). `resetLow` says whether RESETN is low, which holds the whole part (R174, R180).
`owed` holds the tag of each lane's owed DEVICE_READ reply. -/
structure Port where
  resetLow : Bool
  window : Window
  buffer : Option HeldFrame
  replies : List Reply
  owed : PerLane (Option Byte)
  notices : List NoticeSlot
  flags : LinkFlags
  resetCause : ResetCause
deriving DecidableEq, Repr

/-! ## Settings (R176) -/

/-- The grant policies (R1). -/
inductive GrantPolicy where
  | held | auto
deriving DecidableEq, Repr

/-- The settings table (R176). -/
structure Settings where
  mateSettle : Nat
  remateHold : Nat
  bootWait : Nat
  stallLimit : Nat
  retryLimit : Nat
  rollCallPeriod : Nat
  lossCount : Nat
  degradeThreshold : Nat
  sweep : Bool
  sweepBudget : Nat
  policy : PerLane GrantPolicy
  enabled : PerLane Bool
  lineRate : PerLane LineRate
deriving DecidableEq, Repr

/-! ## The machine -/

/-- The part, with the queue of commands that wait for it. -/
structure State where
  settings : Settings
  columns : PerLane Column
  converter : Converter
  table : DeviceTable
  catalogue : Catalogue
  naming : Naming
  port : Port
  pending : List Instr
deriving DecidableEq, Repr

/-! ## After reset -/

/-- R176: the default settings. -/
def Settings.defaults : Settings :=
  { mateSettle := 50, remateHold := 1000, bootWait := 20, stallLimit := 10, retryLimit := 3, rollCallPeriod := 250
    lossCount := 3, degradeThreshold := 32, sweep := true, sweepBudget := 3
    policy := PerLane.fill .held, enabled := PerLane.fill true, lineRate := PerLane.fill .k100 }

/-- R21: a lane controller after reset, for a lane that is not mated. -/
def LaneCtl.reset : LaneCtl :=
  { state := .empty, reading := .opened, settle := .stopped, grantWindow := .stopped, mark := .stale
    grantPending := .none, record := SignatureRecord.cleared, fault := .none, hold := .stopped
    bootWait := .stopped, rewalkWaiting := false }

/-- R53: a supply supervisor after reset; also what every opening of the switch leaves (R51). -/
def Supervisor.reset : Supervisor :=
  { switch := .opened, phase := .idle, cls := .none, inrush := .stopped, samplePeriod := .stopped
    current := 0, voltage := 0, overload := 0, lowCount := 0 }

/-- R90: a line engine after reset. -/
def Engine.reset : Engine :=
  { phase := .idle, inFlight := .none, rateInUse := .none, stallInUse := .none, lastFailed := .none
    handed := .none, driven := [], lck := .released, lda := .released }

/-- R90: a line arbiter after reset. -/
def LineArbiter.reset : LineArbiter := { procedure := .none, transfer := .none, lastGrant := .none }

/-- R115: a walk unit after reset. -/
def WalkUnit.reset : WalkUnit :=
  { phase := .idle, stack := [], root := JunctionList.empty, failedInRow := 0, releases := 0
    binding := .none, record := WalkRecord.start .none }

/-- R142: a roll-call unit after reset. -/
def RollCall.reset : RollCall :=
  { phase := .inactive, period := .stopped, deferred := false, position := .none, used := 0 }

/-- A lane's column after reset. -/
def Column.reset : Column :=
  { ctl := LaneCtl.reset, supervisor := Supervisor.reset, engine := Engine.reset, arbiter := LineArbiter.reset
    slot := .free, walk := WalkUnit.reset, roll := RollCall.reset }

/-- R38: the converter after reset. -/
def Converter.reset : Converter :=
  { pointPending := PerLane.fill .none, samplePending := PerLane.fill false, job := .none, lastServed := .four }

/-- R131: the device table after reset. -/
def DeviceTable.reset : DeviceTable := { entries := [], away := [] }

/-- R151: the catalogue after hardware reset. -/
def Catalogue.reset : Catalogue := { tools := [] }

/-- R168: the naming unit after reset. -/
def Naming.reset : Naming :=
  { record :=
      { generation := 0, tool := 0, outcome := .detached, key := .none, matched := 0, surplus := 0, unmatched := [] }
    passPending := false }

/-- R180: the port after power-on; the notice set holds RESTARTED(POWER_ON). -/
def Port.reset : Port :=
  { resetLow := false, window := .closed, buffer := .none, replies := [], owed := PerLane.fill .none
    notices := [{ notice := .restarted .powerOn, updated := false }]
    flags := { short := false, full := false }, resetCause := .powerOn }

/-- The machine right after power-on with nothing mated and CSN high (R180, log 6). -/
def State.reset : State :=
  { settings := Settings.defaults, columns := PerLane.fill Column.reset, converter := Converter.reset
    table := DeviceTable.reset, catalogue := Catalogue.reset, naming := Naming.reset, port := Port.reset
    pending := [] }

end Sys2Proof.Machine
end

