-- ==== Sys2Proof/Machine/Calls.lean ====
section
/-!
DEFINITION. The calls of the plug line: header, bytes sent, bytes expected, the handle aimed at (R55, R64, R66, R68 to R74).
-/

namespace Sys2Proof.Machine

/-- R64: the call codes. -/
def Call.code : Call → Nat
  | .enrol => 1
  | .bind => 2
  | .probe => 3
  | .peek => 4
  | .leg => 5
  | .release => 6

/-- R64: the header byte, handle × 8 + call. -/
def LineRequest.header (r : LineRequest) : Byte := BitVec.ofNat 8 (r.handle * 8 + r.call.code)

/-- R55: the bit time in nanoseconds. -/
def LineRate.bitTime : LineRate → Nat
  | .k25 => 40000
  | .k50 => 20000
  | .k100 => 10000
  | .k200 => 5000

/-- R66, R70: an identity's six bytes, most significant first. -/
def identityBytes (x : Identity) : List Byte :=
  [x.extractLsb' 40 8, x.extractLsb' 32 8, x.extractLsb' 24 8, x.extractLsb' 16 8, x.extractLsb' 8 8,
    x.extractLsb' 0 8]

/-- R66: the identity in the first six bytes of a record. -/
def identityOf (record : List Byte) : Identity :=
  BitVec.ofNat 48 ((record.take 6).foldl (fun a b => a * 256 + b.toNat) 0)

/-- R66: the class byte of a record. -/
def classOf (record : List Byte) : Byte := record.getD 6 0

/-- R68: ENROL with handle 0. -/
def enrolRequest : LineRequest := { call := .enrol, handle := 0, out := [] }

/-- R70: BIND of an identity to a handle. -/
def bindRequest (identity : Identity) (h : Nat) : LineRequest :=
  { call := .bind, handle := 0, out := identityBytes identity ++ [BitVec.ofNat 8 h] }

/-- R71: PROBE of a handle. -/
def probeRequest (h : Nat) : LineRequest := { call := .probe, handle := h, out := [] }

/-- R72: PEEK of a handle, an offset and a count. -/
def peekRequest (h offset count : Nat) : LineRequest :=
  { call := .peek, handle := h, out := [BitVec.ofNat 8 offset, BitVec.ofNat 8 count] }

/-- R73: LEG of a handle with a leg byte. -/
def legRequest (h : Nat) (byte : Byte) : LineRequest := { call := .leg, handle := h, out := [byte] }

/-- R74: RELEASE of a handle, or of all with handle 31. -/
def releaseRequest (h : Nat) : LineRequest := { call := .release, handle := h, out := [] }

/-- The bytes the devices send in a call, its check byte included (R68, R71, R72). -/
def LineRequest.expected (r : LineRequest) : Nat :=
  match r.call with
  | .enrol => 8
  | .probe => 2
  | .peek => (r.out.getD 1 0).toNat + 1
  | .bind | .leg | .release => 0

/-- R82: the handle an attempt is aimed at: for BIND the handle byte, else the header's handle. -/
def LineRequest.target (r : LineRequest) : Nat :=
  match r.call with
  | .bind => (r.out.getLastD 0).toNat
  | .enrol | .probe | .peek | .leg | .release => r.handle

end Sys2Proof.Machine
end

