-- ==== Sys2Proof/Machine/Slots.lean ====
section
/-!
DEFINITION. The slots of an attempt: what each is for, what the part drives on LCK and LDA in it, which slots a call
lays down and in which phase, and the run of those slots to the stop (R54, R56 to R62, R68, R70 to R74, R76, R77).
-/

namespace Sys2Proof.Machine

/-! ## One slot -/

/-- What a slot is for, and so whose LDA is in it (R56, R57, R59, R60). -/
inductive SlotUse where
  /-- The start slot (R56). -/
  | start
  /-- A bit of a byte the part sends (R57). -/
  | partBit (bit : Bool)
  /-- A bit of a byte a device sends (R57). -/
  | deviceBit
  /-- The acknowledge that devices give for a byte the part sends, at this position from 1 at the header (R60). -/
  | deviceAck (position : Nat)
  /-- The acknowledge that the part gives for a byte a device sends: an ACK or a NAK (R60). -/
  | partAck (ack : Bool)
  /-- The stop slot (R59). -/
  | stop
deriving DecidableEq, Repr

/-- A slot of an attempt, in the phase that covers it (R77). -/
structure LineSlot where
  phase : EnginePhase
  use : SlotUse
deriving DecidableEq, Repr

/-- R57: a bit slot: LCK low through the low half, then released, with LDA unchanged from the low half on. -/
def bitStages (p : EnginePhase) (lda : Drive) : List WireStage := [⟨p, .low, lda⟩, ⟨p, .released, lda⟩]

/-- R57, R60: the part drives LDA low for a 0 and for an ACK. -/
def lowIf : Bool → Drive
  | true => .low
  | false => .released

/-- R56, R57, R59, R60: the stages of a slot. The start slot has LDA low under a released LCK; the stop slot its low half,
its wait for high, and the release of LDA that makes the stop. -/
def LineSlot.stages (x : LineSlot) : List WireStage :=
  match x.use with
  | .start => [⟨x.phase, .released, .low⟩]
  | .partBit b => bitStages x.phase (lowIf !b)
  | .deviceBit => bitStages x.phase .released
  | .deviceAck _ => bitStages x.phase .released
  | .partAck ack => bitStages x.phase (lowIf ack)
  | .stop => [⟨x.phase, .low, .low⟩, ⟨x.phase, .released, .low⟩, ⟨x.phase, .released, .released⟩]

/-- R54: the line is wired-AND: a wire is high only when every party has released it. -/
def wireHigh (drives : List Drive) : Bool := drives.all fun d => d == .released

/-- R62: the bits whose value belongs to the part and in which it releases LDA: what it reads there is checked. -/
def SlotUse.checked : SlotUse → Bool
  | .partBit b => b
  | .partAck ack => !ack
  | .start | .deviceBit | .deviceAck _ | .stop => false

/-- R57: whether a slot is a bit slot. -/
def SlotUse.isBit : SlotUse → Bool
  | .partBit _ | .deviceBit | .deviceAck _ | .partAck _ => true
  | .start | .stop => false

/-- R56, R59, R62: whether a collision can come in this way in a slot. -/
def SlotUse.collides (u : SlotUse) : CollisionCause → Bool
  | .clockLow => u == .start
  | .readLow => u.checked
  | .changed => u.isBit
  | .heldAtStop => u == .stop

/-- R58: bit slots and the stop slot wait for LCK high, so that they alone can stall. -/
def SlotUse.stalls (u : SlotUse) : Bool := u.isBit || u == .stop

/-! ## The slots of a call (R68, R70 to R74, R77) -/

/-- R60: a byte that the part sends, and its acknowledge by the devices. -/
def sentByte (p : EnginePhase) (position : Nat) (b : Byte) : List LineSlot :=
  ((bitsOfByte b).map fun x => ⟨p, .partBit x⟩) ++ [⟨p, .deviceAck position⟩]

/-- The bytes that the part sends, from a position on. -/
def sentBytes (p : EnginePhase) : Nat → List Byte → List LineSlot
  | _, [] => []
  | i, b :: bs => sentByte p i b ++ sentBytes p (i + 1) bs

/-- R60, R68, R71, R72: the bytes that devices send, each acknowledged by the part: a NAK after the last, an ACK after
every other. -/
def heardBytes (p : EnginePhase) : Nat → List LineSlot
  | 0 => []
  | k + 1 => List.replicate 8 ⟨p, .deviceBit⟩ ++ ⟨p, .partAck (k != 0)⟩ :: heardBytes p k

/-- R77: the phase in which a call's bytes from the devices come. -/
def LineRequest.inPhase (r : LineRequest) : EnginePhase :=
  match r.call with
  | .enrol => .arbitrate
  | .bind | .probe | .peek | .leg | .release => .callIn

/-- R59, R77: the stop slot. -/
def stopSlot : LineSlot := ⟨.stop, .stop⟩

/-- R68, R70 to R74, R77: the slots that a call lays down before its stop slot: the start, the header, the bytes the part
sends, the bytes the devices send. -/
def LineRequest.body (r : LineRequest) : List LineSlot :=
  ⟨.start, .start⟩ ::
    (sentByte .header 1 r.header ++ (sentBytes .callOut 2 r.out ++ heardBytes r.inPhase r.expected))

/-- R59, R76: every slot of a call that runs to its end. -/
def LineRequest.slots (r : LineRequest) : List LineSlot := r.body ++ [stopSlot]

/-- R60, R76: the places at which an attempt can have its stop slot: after each byte the part sends, whose acknowledge
may be missing, and at the call's end. -/
def LineRequest.stopPlaces (r : LineRequest) : List Nat :=
  ((List.range (1 + r.out.length)).map fun i => 2 + 9 * (i + 1)) ++ [r.slots.length]

/-- The slot of an attempt at a number, the start slot being slot 1: a stop slot, or one of those before it. -/
def LineRequest.slotAt (r : LineRequest) (slot : Nat) (stopping : Bool) : Option LineSlot :=
  if stopping then (if r.stopPlaces.contains slot then some stopSlot else none)
  else if slot = 0 then none
  else r.body[slot - 1]?

/-- The stages through which an attempt takes the wires before a slot. -/
def LineRequest.stagesBefore (r : LineRequest) (slot : Nat) : List WireStage :=
  (r.body.take (slot - 1)).flatMap LineSlot.stages

/-- R58: the stages of an attempt that stalls in a slot's wait for high; none where no attempt of the call can. -/
def LineRequest.stalled (r : LineRequest) (slot : Nat) (stopping : Bool) : Option (List WireStage) :=
  match r.slotAt slot stopping with
  | some x => if x.use.stalls then some (r.stagesBefore slot ++ x.stages.take 2) else none
  | none => none

/-- R56, R59, R62: the stages of an attempt that collides in a slot; none where no attempt of the call can. -/
def LineRequest.collided (r : LineRequest) (slot : Nat) (cause : CollisionCause) : Option (List WireStage) :=
  match r.slotAt slot (cause == .heldAtStop) with
  | some x => if x.use.collides cause then some (r.stagesBefore slot ++ x.stages) else none
  | none => none

/-! ## The run of an undisturbed attempt (R57, R59, R60, R75, R76) -/

/-- What came of an attempt's slots: those that ran, the stop slot last; the byte whose acknowledge was missing; the bits
that the part read of the devices' bytes. -/
structure SlotRun where
  ran : List LineSlot
  nak : Option Nat
  heard : List Bool
deriving DecidableEq, Repr

/-- A run with one slot before it. -/
def SlotRun.after (x : LineSlot) (r : SlotRun) : SlotRun := { r with ran := x :: r.ran }

/-- R60: the slots run in their order; a missing acknowledge goes straight to the stop slot. The acknowledges and the
devices' bits are what LDA read at the sampling moments; one that nobody drove is a wire left high, a NAK or a 1 (log 9). -/
def runSlots : List LineSlot → List Bool → List Bool → SlotRun
  | [], _, _ => { ran := [stopSlot], nak := none, heard := [] }
  | x :: xs, acks, bits =>
    match x.use with
    | .deviceAck i =>
      if acks.headD false then (runSlots xs acks.tail bits).after x else { ran := [x, stopSlot], nak := some i, heard := [] }
    | .deviceBit =>
      let rest := (runSlots xs acks bits.tail).after x
      { rest with heard := bits.headD true :: rest.heard }
    | .start | .partBit _ | .partAck _ | .stop => (runSlots xs acks bits).after x

/-- R59, R60: the run of an attempt of a call that reaches its stop. -/
def LineRequest.run (r : LineRequest) (acks : List Bool) (bytes : List Byte) : SlotRun := runSlots r.body acks (bitsOf bytes)

/-- The stages through which a run takes the wires. -/
def SlotRun.stages (r : SlotRun) : List WireStage := r.ran.flatMap LineSlot.stages

/-! ## Closing the line (R63) -/

/-- R63 steps 1 to 3: both wires released, then LDA low under a released LCK, then released: the closing stop. -/
def closingStopStages : List WireStage :=
  [⟨.closing, .released, .released⟩, ⟨.closing, .released, .low⟩, ⟨.closing, .released, .released⟩]

/-- R63 steps 1, 2 and 4: both wires released, and left so. -/
def givenUpStages : List WireStage := [⟨.closing, .released, .released⟩]

end Sys2Proof.Machine
end

