-- ==== Sys2Proof/Machine/Sense.lean ====
section
/-!
DEFINITION. The mate comparator on a sense contact (R2).
-/

namespace Sys2Proof

/-- R2: the mate comparator reads MATED at a resistance of 60 kΩ or less, and OPEN otherwise. -/
def Contact.reads : Contact → Reading
  | .bare => .opened
  | .resistance ohms => if ohms ≤ Config.mateOhms then .mated else .opened

end Sys2Proof
end

