-- ==== Sys2Proof/Machine/Ops.lean ====
section
/-!
DEFINITION. The named operations every block works with: updates of one block of the state, the notice set (R173), the
reply queue (R173), and the sets of lane states the spec names (R1, R20).
-/

namespace Sys2Proof.Machine

/-! ## One block of the state -/

/-- One lane's column. -/
def State.col (s : State) (n : Lane) : Column := s.columns.get n

/-- The state with one lane's column changed. -/
def State.modCol (s : State) (n : Lane) (f : Column → Column) : State :=
  { s with columns := s.columns.set n (f (s.columns.get n)) }

/-- The state with one lane controller changed. -/
def State.modCtl (s : State) (n : Lane) (f : LaneCtl → LaneCtl) : State :=
  s.modCol n fun c => { c with ctl := f c.ctl }

/-- The state with one supply supervisor changed. -/
def State.modSupervisor (s : State) (n : Lane) (f : Supervisor → Supervisor) : State :=
  s.modCol n fun c => { c with supervisor := f c.supervisor }

/-- The state with one line engine changed. -/
def State.modEngine (s : State) (n : Lane) (f : Engine → Engine) : State :=
  s.modCol n fun c => { c with engine := f c.engine }

/-- The state with one line arbiter changed. -/
def State.modArbiter (s : State) (n : Lane) (f : LineArbiter → LineArbiter) : State :=
  s.modCol n fun c => { c with arbiter := f c.arbiter }

/-- The state with one transfer slot set. -/
def State.setSlot (s : State) (n : Lane) (x : TransferSlot) : State :=
  s.modCol n fun c => { c with slot := x }

/-- The state with one walk unit changed. -/
def State.modWalk (s : State) (n : Lane) (f : WalkUnit → WalkUnit) : State :=
  s.modCol n fun c => { c with walk := f c.walk }

/-- The state with one roll-call unit changed. -/
def State.modRoll (s : State) (n : Lane) (f : RollCall → RollCall) : State :=
  s.modCol n fun c => { c with roll := f c.roll }

/-- The state with the converter changed. -/
def State.modConverter (s : State) (f : Converter → Converter) : State :=
  { s with converter := f s.converter }

/-- The state with the device table changed. -/
def State.modTable (s : State) (f : DeviceTable → DeviceTable) : State :=
  { s with table := f s.table }

/-- The state with the naming unit changed. -/
def State.modNaming (s : State) (f : Naming → Naming) : State :=
  { s with naming := f s.naming }

/-- The state with the host link port changed. -/
def State.modPort (s : State) (f : Port → Port) : State :=
  { s with port := f s.port }

/-- Whether a timer runs. -/
def Timer.isRunning : Timer → Bool
  | .stopped => false
  | .running _ => true

/-- An increase that saturates at a bound (00_scope.md 5.1). -/
def satAdd (bound a b : Nat) : Nat := min bound (a + b)

/-! ## Sets of lane states -/

/-- R1: POWERING, WALKING and READY are the powered states. -/
def LaneState.powered : LaneState → Bool
  | .powering | .walking | .ready => true
  | .off | .empty | .settling | .signature | .awaitGrant | .parting | .fault => false

/-- R20: the states of the bring-up set. -/
def LaneState.bringingUp : LaneState → Bool
  | .settling | .signature | .powering | .walking => true
  | .off | .empty | .awaitGrant | .ready | .parting | .fault => false

/-- Whether a state is READY. -/
def LaneState.isReady (x : LaneState) : Bool := x == .ready

/-- The state of a lane's controller. -/
def State.laneState (s : State) (n : Lane) : LaneState := (s.col n).ctl.state

/-- R20: whether any lane is in the bring-up set. -/
def State.anyBringingUp (s : State) : Bool := s.columns.toList.any fun c => c.ctl.state.bringingUp

/-- R153: which lanes are in READY. -/
def State.readySet (s : State) : PerLane Bool := s.columns.map fun c => c.ctl.state.isReady

/-! ## The notice set (R173) -/

/-- A notice's source and kind. -/
def Notice.key : Notice → NoticeKey
  | .laneState n _ => .laneState n
  | .laneFault n _ => .laneFault n
  | .roster n _ => .roster n
  | .naming _ => .naming
  | .restarted _ => .restarted

/-- R173's table: what a raise on a waiting slot makes of its contents. -/
def Notice.merge : Notice → Notice → Notice
  | .laneState _ old, .laneState n new =>
    .laneState n
      { new with
        count := satAdd Config.byteCount old.count new.count
        signature := new.signature.or old.signature
        powerGood := new.powerGood.or old.powerGood }
  | .roster _ old, .roster n new =>
    .roster n
      { added := satAdd Config.byteCount old.added new.added
        removed := satAdd Config.byteCount old.removed new.removed
        changed := satAdd Config.byteCount old.changed new.changed }
  | _, new => new

/-- R173: a raise on the notice set: a waiting slot of the same source and kind is updated in its place, and else a
slot becomes waiting at the end. -/
def raiseIn (x : Notice) : List NoticeSlot → List NoticeSlot
  | [] => [{ notice := x, updated := false }]
  | y :: ys =>
    if y.notice.key = x.key then { notice := y.notice.merge x, updated := true } :: ys else y :: raiseIn x ys

/-- R173: a block raises a notice. -/
def raise (x : Notice) (s : State) : State :=
  s.modPort fun p => { p with notices := raiseIn x p.notices }

/-- R129: a raise of ROSTER with what a change adds to its three counts; nothing is raised when it adds 0 to each. -/
def raiseRoster (n : Lane) (added removed changed : Nat) (s : State) : State :=
  if added = 0 ∧ removed = 0 ∧ changed = 0 then s
  else
    raise (.roster n
      { added := satAdd Config.byteCount 0 added
        removed := satAdd Config.byteCount 0 removed
        changed := satAdd Config.byteCount 0 changed }) s

/-! ## The reply queue (R173) -/

/-- R173: a reply is placed at the tail of the reply queue. -/
def placeReply (r : Reply) (s : State) : State :=
  s.modPort fun p => { p with replies := p.replies ++ [r] }

/-- The number of owed replies. -/
def Port.owedCount (p : Port) : Nat := (p.owed.toList.filter Option.isSome).length

end Sys2Proof.Machine
end

