-- ==== Sys2Proof/Machine/Table.lean ====
section
/-!
DEFINITION. The device table: order, lookup, turning AWAY, removal, error counts, allocation (R116 to R131).
-/

namespace Sys2Proof.Machine

/-! ## Order and lookup -/

/-- R130: reporting order, by lane and then by handle. -/
def EntryKey.before (a b : EntryKey) : Bool :=
  a.lane.number < b.lane.number || (a.lane.number == b.lane.number && a.handle < b.handle)

/-- Whether an entry is PRESENT or LOST (R118). -/
def Entry.bound (e : Entry) : Bool :=
  match e.state with
  | .present | .lost => true
  | .away => false

/-- The entry of a key. -/
def DeviceTable.find (t : DeviceTable) (k : EntryKey) : Option Entry := t.entries.find? fun e => e.key == k

/-- A lane's entries, in handle order. -/
def DeviceTable.ofLane (t : DeviceTable) (n : Lane) : List Entry := t.entries.filter fun e => e.key.lane == n

/-- R120: an entry's away position: 1 plus the number of entries ahead of it in the away list. -/
def DeviceTable.awayPosition (t : DeviceTable) (k : EntryKey) : Option Nat :=
  (t.away.findIdx? (· == k)).map (· + 1)

/-! ## Writes -/

/-- R117: a write to the entry of a key; one to a removed entry finds none and changes nothing. -/
def DeviceTable.write (t : DeviceTable) (k : EntryKey) (f : Entry → Entry) : DeviceTable :=
  { t with entries := t.entries.map fun e => if e.key = k then f e else e }

/-- A new entry takes its place in reporting order. -/
def insertEntry (x : Entry) : List Entry → List Entry
  | [] => [x]
  | e :: es => if x.key.before e.key then x :: e :: es else e :: insertEntry x es

/-- R98, R118: a new entry is written. -/
def DeviceTable.insert (t : DeviceTable) (x : Entry) : DeviceTable :=
  { t with entries := insertEntry x t.entries }

/-- R119: what turning AWAY makes of an entry. -/
def Entry.turnedAway (e : Entry) : Entry :=
  { e with state := .away, name := none, slotRef := none, miss := 0 }

/-- R119: the entries of a lane that turn AWAY at an occasion, in handle order. -/
def DeviceTable.leaving (t : DeviceTable) (n : Lane) : List EntryKey :=
  ((t.ofLane n).filter Entry.bound).map (·.key)

/-- R119, R120: a lane's PRESENT and LOST entries turn AWAY and join the end of the away list in handle order. -/
def DeviceTable.turnAway (t : DeviceTable) (n : Lane) : DeviceTable :=
  { entries := t.entries.map fun e => if e.key.lane = n ∧ e.bound then e.turnedAway else e
    away := t.away ++ t.leaving n }

/-- R124: the entries of these keys leave the table, and the away list if they stand on it. -/
def DeviceTable.remove (t : DeviceTable) (gone : List EntryKey) : DeviceTable :=
  { entries := t.entries.filter fun e => !gone.contains e.key
    away := t.away.filter fun k => !gone.contains k }

/-- A lane's AWAY entries. -/
def DeviceTable.awayOf (t : DeviceTable) (n : Lane) : List EntryKey :=
  ((t.ofLane n).filter fun e => e.state == .away).map (·.key)

/-! ## Counted changes on the state -/

/-- R119, R129: a lane's entries turn AWAY, each adding 1 to its ROSTER changed count. -/
def turnAway (n : Lane) (s : State) : State :=
  raiseRoster n 0 0 (s.table.leaving n).length (s.modTable fun t => t.turnAway n)

/-- R124, R129: entries of a lane are removed, each adding 1 to its ROSTER removed count. -/
def removeCounted (n : Lane) (gone : List EntryKey) (s : State) : State :=
  raiseRoster n 0 gone.length 0 (s.modTable fun t => t.remove gone)

/-- R14, R124: every AWAY entry of a lane is removed. -/
def removeAway (n : Lane) (s : State) : State := removeCounted n (s.table.awayOf n) s

/-- R18, R124: every entry of a lane is removed. -/
def removeLane (n : Lane) (s : State) : State :=
  removeCounted n ((s.table.ofLane n).map (·.key)) s

/-! ## Line errors (R82, R126) -/

/-- R126: whether a failed attempt that brings the count to `count` sets DEGRADED. -/
def Entry.degrades (threshold : Nat) (e : Entry) : Bool :=
  threshold ≤ satAdd Config.byteCount e.errors 1 && !e.flags.degraded

/-- R126: one failed attempt on an entry's line error count and DEGRADED flag. -/
def Entry.lineError (threshold : Nat) (e : Entry) : Entry :=
  { e with
    errors := satAdd Config.byteCount e.errors 1
    flags := { e.flags with
      degraded := e.flags.degraded || threshold ≤ satAdd Config.byteCount e.errors 1 } }

/-- R82, R126: a failed attempt counts against the entry of a key, if there is one. -/
def countLineError (k : EntryKey) (s : State) : State :=
  match s.table.find k with
  | none => s
  | some e =>
    raiseRoster k.lane 0 0 (if e.degrades s.settings.degradeThreshold then 1 else 0)
      (s.modTable fun t => t.write k (Entry.lineError s.settings.degradeThreshold))

/-! ## Reservations, holds and allocation (R97, R116, R121 to R123) -/

/-- R116: the entry a lane's pending binding holds. -/
def WalkUnit.heldHandle (w : WalkUnit) : Option Nat :=
  match w.binding with
  | some b => if b.kind = .refound then some b.handle else none
  | none => none

/-- R116: whether a lane's pending binding reserves a handle and a slot. -/
def WalkUnit.reserves (w : WalkUnit) : Bool :=
  match w.binding with
  | some b => b.kind == .new
  | none => false

/-- R122: whether an entry is held, so that no allocation evicts it. -/
def State.held (s : State) (k : EntryKey) : Bool := (s.col k.lane).walk.heldHandle == some k.handle

/-- R122: the slots that reservations of the other lanes hold. -/
def State.reservedElsewhere (s : State) (n : Lane) : Nat :=
  (Lane.all.filter fun m => m != n && (s.col m).walk.reserves).length

/-- R121: the lowest handle of 1..30 that no entry of a lane holds. -/
def lowestFree (used : List Nat) : Option Nat :=
  ((List.range Config.handleCount).map (· + 1)).find? fun h => !used.contains h

/-- R123: an eviction removes one AWAY entry and counts it in its own lane's ROSTER removed count. -/
def evict (k : EntryKey) (s : State) : State := removeCounted k.lane [k] s

/-- How an allocation ends (R97). -/
inductive Allocation where
  | given (handle : Nat) (s : State)
  | handlesExhausted (s : State)
  | tableFull (s : State)

/-- The state an allocation leaves, its evictions made (R123). -/
def Allocation.state : Allocation → State
  | .given _ s => s
  | .handlesExhausted s => s
  | .tableFull s => s

/-- R97 step 2: an entry slot for a lane, evicting the earliest away entry of any lane that is not held. -/
def allocateSlot (n : Lane) (h : Nat) (s : State) : Allocation :=
  if s.table.entries.length + s.reservedElsewhere n < Config.tableSlots then .given h s
  else
    match s.table.away.find? fun k => !s.held k with
    | some k => .given h (evict k s)
    | none => .tableFull s

/-- R97: the handle and the entry slot for a NEW record of a lane. -/
def allocate (n : Lane) (s : State) : Allocation :=
  match lowestFree ((s.table.ofLane n).map (·.key.handle)) with
  | some h => allocateSlot n h s
  | none =>
    match s.table.away.find? fun k => k.lane == n && !s.held k with
    | some k => allocateSlot n k.handle (evict k s)
    | none => .handlesExhausted s

end Sys2Proof.Machine
end

