-- ==== Sys2Proof/Machine/Line.lean ====
section
/-!
DEFINITION. The line engine and the line arbiter: the results of attempts, transactions, aborts (R63, R67, R75 to R90),
without what a requester does with a result.
-/

namespace Sys2Proof.Machine

/-! ## The result of an attempt (R75, R76) -/

/-- R75: the bytes read that a result hands on: the record of ENROL whole, else what the check byte follows. -/
def LineRequest.handedBytes (r : LineRequest) (heard : List Byte) : Option (List Byte) :=
  match r.call with
  | .enrol => some heard
  | .probe | .peek => some heard.dropLast
  | .bind | .leg | .release => none

/-- R67: whether the check byte that ends the bytes heard is the CRC-8 of those before it. -/
def checkGood (heard : List Byte) : Bool := heard.isEmpty || crc8 heard.dropLast == heard.getLastD 0

/-- R75, R76: the result of an attempt whose slots ran to a good stop. -/
def LineRequest.judge (r : LineRequest) (run : SlotRun) : AttemptResult :=
  match run.nak with
  | some i => { outcome := .noAck, failedByte := some i, bytesRead := none, bitTimes := run.ran.length }
  | none =>
    let heard := wholeBytes run.heard
    { outcome := if checkGood heard then .done else .badCheck
      failedByte := none
      bytesRead := r.handedBytes heard
      bitTimes := run.ran.length }

/-- R75: the result of an attempt that reaches a good stop. -/
def LineRequest.result (r : LineRequest) (acks : List Bool) (bytes : List Byte) : AttemptResult :=
  r.judge (r.run acks bytes)

/-- R75: the result of an attempt that STALL or COLLISION ends at a slot. -/
def brokenResult (o : Outcome) (slot : Nat) : AttemptResult :=
  { outcome := o, failedByte := none, bytesRead := none, bitTimes := slot }

/-! ## Attempts and transactions (R77 to R81) -/

/-- R79: the attempts a transaction is allowed. -/
def Transaction.allowed (t : Transaction) : Nat :=
  match t.request.call with
  | .enrol => 1
  | .release => if t.request.handle = Config.allHandle then 1 else 1 + t.retryLimit
  | .bind | .probe | .peek | .leg => 1 + t.retryLimit

/-- R80: whether an attempt of a PEEK was refused at its offset byte. -/
def Transaction.refusedOffset (t : Transaction) (r : AttemptResult) : Bool :=
  t.request.call == .peek && r.outcome == .noAck && r.failedByte == some 2

/-- R61, R78: an attempt begins with the idle check, taking the line rate and the stall limit in force; both wires
are released. -/
def Engine.beginAttempt (rate : LineRate) (stall : Nat) (e : Engine) : Engine :=
  { e with phase := .idleCheck, rateInUse := some rate, stallInUse := some stall, lck := .released, lda := .released }

/-- R78: a granted transaction begins, taking the retry limit in force. -/
def Engine.beginTransaction (q : Requester) (r : LineRequest) (retry : Nat) (e : Engine) : Engine :=
  { e with inFlight := some { request := r, requester := q, retryLimit := retry, attempt := 1 }, lastFailed := none }

/-- R78: a further attempt of the same transaction is numbered. -/
def Transaction.again (t : Transaction) : Transaction := { t with attempt := t.attempt + 1 }

/-- R63 step 1, R77: the engine closes the line: both wires released. -/
def Engine.beginClosing (e : Engine) : Engine := { e with phase := .closing, lck := .released, lda := .released }

/-- The engine goes to IDLE with nothing in flight (R81, R83, R86); what was in use ends with the line idle (R78). -/
def Engine.rest (e : Engine) : Engine :=
  { e with
    phase := .idle, inFlight := none, rateInUse := none, stallInUse := none, lastFailed := none
    lck := .released, lda := .released }

/-- R78: the lane's engine begins an attempt with the settings in force. -/
def beginAttempt (n : Lane) (s : State) : State :=
  s.modEngine n (Engine.beginAttempt (s.settings.lineRate.get n) s.settings.stallLimit)

/-- R81: the result of a transaction whose last attempt ended DONE. -/
def Transaction.doneReport (t : Transaction) (r : AttemptResult) : TransactionReport :=
  { result := .done, lastOutcome := none, bytesRead := r.bytesRead, attempts := t.attempt }

/-- R80, R81: the result of a PEEK refused at its offset. -/
def Transaction.rangeReport (t : Transaction) : TransactionReport :=
  { result := .range, lastOutcome := none, bytesRead := none, attempts := t.attempt }

/-- R81: the bytes a failed transaction hands on: those of an ENROL ending BAD_CHECK. -/
def Transaction.failedBytes (t : Transaction) (r : AttemptResult) : Option (List Byte) :=
  if t.request.call = .enrol then r.bytesRead else none

/-- R81: the result of a transaction whose last allowed attempt has failed. -/
def Transaction.failedReport (t : Transaction) (r : AttemptResult) : TransactionReport :=
  { result := .failed, lastOutcome := some (r.outcome, r.failedByte), bytesRead := t.failedBytes r
    attempts := t.attempt }

/-- R81: whether a report is of a failure with this outcome. -/
def TransactionReport.failedWith (p : TransactionReport) (o : Outcome) : Bool :=
  match p.result, p.lastOutcome with
  | .failed, some (x, _) => x == o
  | _, _ => false

/-! ## The line arbiter (R84) -/

/-- R84: a requester places its request. -/
def placeRequest (n : Lane) (q : Requester) (r : LineRequest) (s : State) : State :=
  s.modArbiter n fun a =>
    match q with
    | .procedure => { a with procedure := some r }
    | .transfer => { a with transfer := some r }

/-- R84: the request the arbiter grants: with both present the transfer's, unless it had the last grant. -/
def LineArbiter.choice (a : LineArbiter) : Option (Requester × LineRequest) :=
  match a.procedure, a.transfer with
  | none, none => none
  | some p, none => some (.procedure, p)
  | none, some t => some (.transfer, t)
  | some p, some t => if a.lastGrant = .transfer then some (.procedure, p) else some (.transfer, t)

/-- R84: a grant removes the request and is recorded. -/
def LineArbiter.granted (q : Requester) (a : LineArbiter) : LineArbiter :=
  match q with
  | .procedure => { a with procedure := none, lastGrant := .procedure }
  | .transfer => { a with transfer := none, lastGrant := .transfer }

/-- R84: the arbiter grants a transaction whenever the engine is in IDLE and a request is present. -/
def lineGrant (n : Lane) (s : State) : State :=
  if (s.col n).engine.phase = .idle then
    match (s.col n).arbiter.choice with
    | none => s
    | some (q, r) =>
      beginAttempt n
        ((s.modArbiter n (LineArbiter.granted q)).modEngine n (Engine.beginTransaction q r s.settings.retryLimit))
  else s

/-! ## Aborts (R86) -/

/-- R86: what an abort makes of the engine: a transaction in flight ends and its line is closed; a closing under way
runs on with no transaction. -/
def Engine.abort (e : Engine) : Engine :=
  match e.phase with
  | .idle => { e with inFlight := none, lastFailed := none }
  | .closing => { e with inFlight := none, lastFailed := none }
  | .idleCheck | .start | .header | .callOut | .callIn | .arbitrate | .stop =>
    { e.beginClosing with inFlight := none, lastFailed := none }

/-- R86: an abort of a lane's line work; every request of the arbiter is withdrawn. -/
def abortLine (n : Lane) (s : State) : State :=
  (s.modEngine n Engine.abort).modArbiter n fun _ => LineArbiter.reset

end Sys2Proof.Machine
end

