-- ==== Sys2Proof/Machine/Naming.lean ====
section
/-!
DEFINITION. The naming unit: when a pass runs, what it reads, how it selects a tool and fills slots, what it writes
(R152 to R168).
-/

namespace Sys2Proof.Machine

/-! ## The view of a pass (R156) -/

/-- R156: the PRESENT and LOST entries of the READY lanes, in reporting order. -/
def State.namingView (s : State) : List Entry :=
  s.table.entries.filter fun e => e.bound && s.readySet.get e.key.lane

/-! ## Selection and class check (R158, R159) -/

/-- R158: the defined tools whose key is the identity of an entry in the view. -/
def keyedTools (tools : List Tool) (view : List Entry) : List Tool :=
  tools.filter fun t => view.any fun e => e.identity == t.key

/-- R159: whether one lane passes a tool's expectation. -/
def Expectation.passes (x : Expectation) (ready : Bool) (cls : Option SupplyClass) : Bool :=
  match x with
  | .any => true
  | .nothing => !ready
  | .ofClass y => !ready || cls == some y

/-- R159: whether every lane passes the tool's expectations. -/
def State.classesPass (s : State) (t : Tool) : Bool :=
  Lane.all.all fun n => (t.expects.get n).passes (s.readySet.get n) (s.col n).ctl.record.cls

/-! ## Slot matching (R160 to R163) -/

/-- A slot filled by an entry: the slot's index, the entry's key, whether the slot is pinned. -/
structure Filled where
  index : Nat
  key : EntryKey
  pinned : Bool
deriving DecidableEq, Repr

/-- A tool's slots with their indices, counted from 1 (R144). -/
def Tool.indexed (t : Tool) : List (Nat × Slot) := (List.range t.slots.length).map (· + 1) |>.zip t.slots

/-- Whether a slot is pinned. -/
def Slot.pinned (x : Slot) : Bool :=
  match x.filling with
  | .pin _ => true
  | .ordinal _ => false

/-- R160: the order in which slots are handled: by depth, the pinned before the unpinned, by index. -/
def Tool.matchingOrder (t : Tool) : List (Nat × Slot) :=
  [0, 1, 2].flatMap fun d =>
    (t.indexed.filter fun p => p.2.depth == d && p.2.pinned)
      ++ (t.indexed.filter fun p => p.2.depth == d && !p.2.pinned)

/-- R160: the parent handle a slot's candidates must name: 0 at the lane root, or the handle of the entry that filled
the parent slot; none where that slot was not filled. -/
def Slot.anchor (x : Slot) (filled : List Filled) : Option Nat :=
  if x.parent = 0 then some 0
  else (filled.find? fun f => f.index == x.parent).map fun f => f.key.handle

/-- R160, R161: whether an entry stands at a slot's place under an anchor, with the slot's class. -/
def Slot.placed (x : Slot) (anchor : Nat) (e : Entry) : Bool :=
  e.key.lane == x.lane && e.cls == x.cls && e.parent == anchor && (x.parent == 0 || e.leg == x.leg)

/-- An entry takes its place in ascending order of identity, as 48-bit unsigned numbers (R161). -/
def insertByIdentity (x : Entry) : List Entry → List Entry
  | [] => [x]
  | e :: es => if x.identity.toNat < e.identity.toNat then x :: e :: es else e :: insertByIdentity x es

/-- R161: entries ordered by identity, ascending. -/
def byIdentity (es : List Entry) : List Entry := es.foldr insertByIdentity []

/-- R161: the pool of an unpinned slot under an anchor. -/
def Slot.pool (x : Slot) (anchor : Nat) (view : List Entry) (filled : List Filled) : List Entry :=
  byIdentity (view.filter fun e => x.placed anchor e && !filled.any fun f => f.pinned && f.key == e.key)

/-- R160, R161: the entry that fills a slot, if any. -/
def Slot.filler (x : Slot) (view : List Entry) (filled : List Filled) : Option Entry :=
  match x.anchor filled with
  | none => none
  | some anchor =>
    match x.filling with
    | .pin identity => view.find? fun e => e.identity == identity && x.placed anchor e
    | .ordinal k => if k = 0 then none else (x.pool anchor view filled)[k - 1]?

/-- R160: one slot is matched. -/
def matchSlot (view : List Entry) (filled : List Filled) (p : Nat × Slot) : List Filled :=
  match p.2.filler view filled with
  | none => filled
  | some e => filled ++ [{ index := p.1, key := e.key, pinned := p.2.pinned }]

/-- R160: the three rounds of slot matching. -/
def matchSlots (t : Tool) (view : List Entry) : List Filled :=
  t.matchingOrder.foldl (matchSlot view) []

/-- R163: the indices of the required slots not filled, in ascending order. -/
def unmatchedRequired (t : Tool) (filled : List Filled) : List Nat :=
  (t.indexed.filter fun p => p.2.required && !filled.any fun f => f.index == p.1).map (·.1)

/-! ## Names (R162, R164) -/

/-- The character of a decimal digit. -/
def digit (n : Nat) : Byte := BitVec.ofNat 8 (48 + n % 10)

/-- R164: the default name: "~", the lane's digit, ".", the handle's two digits. -/
def defaultName (k : EntryKey) : List Byte :=
  [0x7E, digit k.lane.number, 0x2E, digit (k.handle / 10), digit k.handle]

/-- R162, R164: what a pass writes into an entry of its view. -/
def Entry.named (tool : Nat) (slots : List Slot) (filled : List Filled) (e : Entry) : Entry :=
  match filled.find? fun f => f.key == e.key with
  | some f =>
    match slots[f.index - 1]? with
    | some x => { e with name := some x.name, slotRef := some { tool, index := f.index } }
    | none => { e with name := some (defaultName e.key), slotRef := none }
  | none => { e with name := some (defaultName e.key), slotRef := none }

/-! ## The pass -/

/-- What a pass decides: the record's fields but the generation, the slots of the tool that names, what is filled. -/
structure Decision where
  tool : Nat
  outcome : MatchOutcome
  key : Option EntryKey
  slots : List Slot
  filled : List Filled
  surplus : Nat
  unmatched : List Nat

/-- A decision that fills no slot. -/
def Decision.unfilled (outcome : MatchOutcome) (tool : Nat) (key : Option EntryKey) : Decision :=
  { tool, outcome, key, slots := [], filled := [], surplus := 0, unmatched := [] }

/-- R160 to R163: the decision of a pass that has selected a tool and passed the class check. -/
def Decision.ofMatch (t : Tool) (key : Option EntryKey) (view : List Entry) : Decision :=
  let filled := matchSlots t view
  let unmatched := unmatchedRequired t filled
  { tool := t.number
    outcome := if unmatched.isEmpty then .named else .incomplete
    key
    slots := t.slots
    filled
    surplus := (view.filter fun e => !filled.any fun f => f.key == e.key).length
    unmatched }

/-- R157 to R163: what a pass decides from the state it runs on. -/
def State.decision (s : State) : Decision :=
  let view := s.namingView
  if s.readySet.toList.any id then
    match keyedTools s.catalogue.tools view with
    | [] => .unfilled .noTool 0 none
    | [t] =>
      let key := (view.find? fun e => e.identity == t.key).map (·.key)
      if s.classesPass t then .ofMatch t key view else .unfilled .mismatch t.number key
    | _ => .unfilled .ambiguous 0 none
  else .unfilled .detached 0 none

/-- R165: the generation grows by 1, wrapping from 65535 to 0. -/
def nextGeneration (g : Nat) : Nat := (g + 1) % (Config.wordCount + 1)

/-- R152: the match record a pass writes. -/
def Decision.record (d : Decision) (generation : Nat) : MatchRecord :=
  { generation, tool := d.tool, outcome := d.outcome, key := d.key, matched := d.filled.length
    surplus := d.surplus, unmatched := d.unmatched }

/-- R165: the NAMING notice of a record. -/
def MatchRecord.notice (r : MatchRecord) : Notice :=
  .naming
    { generation := r.generation, tool := r.tool, outcome := r.outcome, matched := r.matched
      missing := r.unmatched.length, surplus := r.surplus }

/-- R162, R164: a pass sets the name and slot reference of every entry in its view. -/
def State.writeNames (s : State) (d : Decision) : State :=
  s.modTable fun t =>
    { t with
      entries := t.entries.map fun e =>
        if e.bound && s.readySet.get e.key.lane then e.named d.tool d.slots d.filled else e }

/-- R156: a naming pass, taken whole: names, match record, generation, NAMING notice; the pending-pass mark clears. -/
def namingPass (s : State) : State :=
  let r := s.decision.record (nextGeneration s.naming.record.generation)
  raise r.notice ((s.writeNames s.decision).modNaming fun _ => { record := r, passPending := false })

/-- R154: a pass is made due: it runs at once with the bring-up set empty, and is marked pending otherwise. -/
def passDue (s : State) : State :=
  if s.anyBringingUp then s.modNaming fun u => { u with passPending := true } else namingPass s

/-- R153: a lane transition, from the lane states of `before` to those of `after`, makes a pass due when it empties
the bring-up set or changes the READY set. -/
def causedByTransition (before after : State) : Bool :=
  (before.anyBringingUp && !after.anyBringingUp) || before.readySet != after.readySet

end Sys2Proof.Machine
end

