-- ==== Sys2Proof/Machine/Converter.lean ====
section
/-!
DEFINITION. The measurement converter and its arbiter (R34 to R38).
-/

namespace Sys2Proof.Machine

/-- R36: the lanes in rotation, beginning after the last lane served. -/
def rotation : Lane → List Lane
  | .one => [.two, .three, .four, .one]
  | .two => [.three, .four, .one, .two]
  | .three => [.four, .one, .two, .three]
  | .four => [.one, .two, .three, .four]

/-- R36: the job a lane offers the arbiter, a sample job before a point job. -/
def Converter.offer (c : Converter) (n : Lane) : Option Job :=
  if c.samplePending.get n then some { lane := n, kind := .sample, live := true }
  else (c.pointPending.get n).map fun k => { lane := n, kind := .point k, live := true }

/-- R36: the job the arbiter chooses: that of the first lane in rotation with a flag set. -/
def Converter.choose (c : Converter) : Option Job := (rotation c.lastServed).findSome? c.offer

/-- R35, R36: a chosen job starts: its flag clears, and its lane becomes the last served. -/
def Converter.begin (c : Converter) (j : Job) : Converter :=
  match j.kind with
  | .point _ => { c with pointPending := c.pointPending.set j.lane none, job := some j, lastServed := j.lane }
  | .sample => { c with samplePending := c.samplePending.set j.lane false, job := some j, lastServed := j.lane }

/-- R36: the arbiter starts a job whenever the converter is free and a flag is set. -/
def Converter.arbitrate (c : Converter) : Converter :=
  match c.job, c.choose with
  | none, some j => c.begin j
  | _, _ => c

/-- R35: a job is placed; while no job is in progress the placement starts it at once (R36). -/
def Converter.place (c : Converter) (k : JobKind) (n : Lane) : Converter :=
  match k with
  | .point p => { c with pointPending := c.pointPending.set n (some p) }.arbitrate
  | .sample => { c with samplePending := c.samplePending.set n true }.arbitrate

/-- R37: a job in progress of a lane that has left what asked for it will be discarded. -/
def Job.orphan (n : Lane) (j : Job) : Job := if j.lane = n then { j with live := false } else j

/-- R35: a lane withdraws its pending jobs; one in progress runs on to be discarded. -/
def Converter.withdraw (c : Converter) (n : Lane) : Converter :=
  { c with
    pointPending := c.pointPending.set n none
    samplePending := c.samplePending.set n false
    job := c.job.map (Job.orphan n) }

/-- R36: the converter becomes free at a completion, and the arbiter chooses and starts the next job. -/
def Converter.complete (c : Converter) : Converter := { c with job := none }.arbitrate

/-- R38: a RESTART clears every flag and sets the last lane served to 4; a job in progress runs on to be discarded. -/
def Converter.restart (c : Converter) : Converter :=
  { Converter.reset with job := c.job.map fun j => { j with live := false } }

/-- R23: the point job that forces a current into a lane's sense contact, from the job's start to its completion. -/
def Converter.forcing (c : Converter) (n : Lane) : Option Point :=
  match c.job with
  | some { lane := m, kind := .point p, live := _ } => if m = n then some p else none
  | some { lane := _, kind := .sample, live := _ } => none
  | none => none

/-- R2: whether a lane's comparator is blanked by its own point job in progress. -/
def Converter.blanks (c : Converter) (n : Lane) : Bool := (c.forcing n).isSome

/-- R23: the current that a point job forces, in µA. -/
def Point.current : Point → Nat
  | .p1 => Config.p1Current
  | .p2 => Config.p2Current

/-- R2, R23: the current that the part drives into a lane's sense contact, in µA: the comparator's bias, or in its place the
current of the lane's point job in progress. -/
def Converter.senseCurrent (c : Converter) (n : Lane) : Nat :=
  match c.forcing n with
  | some p => p.current
  | none => Config.biasCurrent

end Sys2Proof.Machine
end

