-- ==== Sys2Proof/Machine/Signature.lean ====
section
/-!
DEFINITION. Signature arithmetic: slope codes, measurement and attempt verdicts, the writing of the signature record
(R23 to R32).
-/

namespace Sys2Proof.Machine

/-- R32: a class's budget in mA. -/
def SupplyClass.budget : SupplyClass → Nat
  | .a => 500
  | .b => 1000
  | .c => 2000
  | .d => 3000

/-- R32: the trip threshold in mA, twice the budget. -/
def SupplyClass.tripThreshold (x : SupplyClass) : Nat := 2 * x.budget

/-- R32: the current code above which a lane is over budget; a code is 2 mA. -/
def SupplyClass.overCode (x : SupplyClass) : Nat := x.budget / 2

/-- R26: the class whose slope band, both ends included, holds a slope code. -/
def bandClass (s : Int) : Option SupplyClass :=
  if 184 ≤ s ∧ s ≤ 216 then some .a
  else if 368 ≤ s ∧ s ≤ 432 then some .b
  else if 736 ≤ s ∧ s ≤ 864 then some .c
  else if 1472 ≤ s ∧ s ≤ 1728 then some .d
  else none

/-- R25: the slope code of a measurement. -/
def slopeCode (v1 v2 : Code) : Int := (v2.toNat : Int) - (v1.toNat : Int)

/-- R26: a measurement's verdict from V2 and S, the tests in the order given. -/
def measurementVerdict (v2 : Code) (s : Int) : MeasurementVerdict :=
  if v2.toNat = Config.clipped ∨ Config.openSlope ≤ s then .opened
  else if s < 0 then .noisy
  else if s ≤ Config.shortSlope then .short
  else
    match bandClass s with
    | some x => .ofClass x
    | none => .ambiguous

/-- R27: an attempt's verdict from its two measurements' verdicts and slope codes. -/
def judgeAttempt (v1 v2 : MeasurementVerdict) (s1 s2 : Int) : AttemptVerdict :=
  match v1, v2 with
  | .ofClass x, .ofClass y =>
    if x = y then (if (s1 - s2).natAbs ≤ Config.spreadLimit then .valid else .spread) else .failed v2
  | .short, .short => .signatureShort
  | _, _ => .failed v2

/-- R27: the slope code of a VALID attempt, floor((S1 + S2) / 2). -/
def attemptSlope (s1 s2 : Int) : Int := Int.fdiv (s1 + s2) 2

/-- The supply class of a measurement verdict, if it is one. -/
def MeasurementVerdict.cls : MeasurementVerdict → Option SupplyClass
  | .ofClass x => some x
  | .opened | .noisy | .short | .ambiguous => none

/-- R30: the first P1 of an attempt is placed: the attempt count grows, and the measurement fields and the attempt
verdict of the attempt before are cleared to absent. -/
def SignatureRecord.beginAttempt (r : SignatureRecord) : SignatureRecord :=
  { r with attempts := r.attempts + 1, m1 := Measurement.absent, m2 := Measurement.absent, attemptVerdict := none }

/-- R25, R26: V2 of a measurement is written, and the measurement judged. -/
def Measurement.judge (m : Measurement) (v1 code : Code) : Measurement :=
  { m with
    v2 := some code
    slope := some (slopeCode v1 code)
    verdict := some (measurementVerdict code (slopeCode v1 code)) }

/-- R27: the attempt verdict of a record whose two measurements are written; none before that. -/
def SignatureRecord.judged (r : SignatureRecord) : Option AttemptVerdict :=
  match r.m1.verdict, r.m2.verdict, r.m1.slope, r.m2.slope with
  | some v1, some v2, some s1, some s2 => some (judgeAttempt v1 v2 s1 s2)
  | _, _, _, _ => none

/-- R24: the point that the fixed order P1, P2, P1, P2 puts next. -/
def SignatureRecord.nextPoint (r : SignatureRecord) : Point :=
  match r.m1.v1, r.m1.v2, r.m2.v1 with
  | none, _, _ => .p1
  | some _, none, _ => .p2
  | some _, some _, none => .p1
  | some _, some _, some _ => .p2

/-- R24, R30: the voltage code of a completed point job is written where the fixed order P1, P2, P1, P2 puts it; a
P2 has its measurement judged, and the P2 of m2 the attempt. -/
def SignatureRecord.writePoint (r : SignatureRecord) (code : Code) : SignatureRecord :=
  match r.m1.v1, r.m1.v2, r.m2.v1 with
  | none, _, _ => { r with m1 := { r.m1 with v1 := some code } }
  | some v1, none, _ => { r with m1 := r.m1.judge v1 code }
  | some _, some _, none => { r with m2 := { r.m2 with v1 := some code } }
  | some _, some _, some v1 =>
    let r := { r with m2 := r.m2.judge v1 code }
    { r with attemptVerdict := r.judged }

/-- R28, R30: the end of a series VALID: class, slope code and resistance are written. -/
def SignatureRecord.endValid (r : SignatureRecord) : SignatureRecord :=
  let slope := attemptSlope (r.m1.slope.getD 0) (r.m2.slope.getD 0)
  { r with
    final := .valid
    cls := r.m2.verdict.bind MeasurementVerdict.cls
    slope := some slope
    resistance := some (slope * Config.ohmsPerSlope) }

end Sys2Proof.Machine
end

