-- ==== Sys2Proof/Machine/Supply.lean ====
section
/-!
DEFINITION. The supply supervisor: closing and opening the switch, the trip comparator, the accumulator and the
low-supply count (R40 to R53).
-/

namespace Sys2Proof.Machine

/-- The trip comparator's conditions (R45). -/
inductive Comparator where
  | inactive | masked | armed
deriving DecidableEq, Repr

/-- R40, R45: inactive in IDLE, masked in INRUSH, armed in CHECK and POLICING. -/
def Supervisor.comparator (v : Supervisor) : Comparator :=
  match v.phase with
  | .idle => .inactive
  | .inrush => .masked
  | .check | .policing => .armed

/-- R41, R42, R44: the close command, with the lane's class; one that finds the switch CLOSED changes nothing. -/
def Supervisor.switchOn (v : Supervisor) (cls : Option SupplyClass) : Supervisor :=
  match v.switch with
  | .closed => v
  | .opened =>
    { v with switch := .closed, phase := .inrush, cls, inrush := .running Config.inrushWindow }

/-- R51: every opening of the switch: SWGn off, readings and counts 0, timers stopped, class absent, phase IDLE. -/
def Supervisor.switchOff (v : Supervisor) : Supervisor :=
  { v with
    switch := .opened, phase := .idle, cls := none, inrush := .stopped, samplePeriod := .stopped
    current := 0, voltage := 0, overload := 0, lowCount := 0 }

/-- R44: the expiry of the inrush window: CHECK, with the sample period timer running. -/
def Supervisor.endInrush (v : Supervisor) : Supervisor :=
  { v with phase := .check, inrush := .stopped, samplePeriod := .running Config.samplePeriod }

/-- R45: whether a current in mA is a trip event for an armed comparator. -/
def Supervisor.trips (v : Supervisor) (milliamps : Nat) : Bool :=
  match v.comparator, v.cls with
  | .armed, some x => x.tripThreshold < milliamps
  | _, _ => false

/-- R48: whether a current code is over the budget of the class. -/
def Supervisor.overBudget (v : Supervisor) (current : Code) : Bool :=
  match v.cls with
  | some x => x.budget < current.toNat * 2
  | none => false

/-- R48: the accumulator after a sample. -/
def Supervisor.accumulate (v : Supervisor) (current : Code) : Nat :=
  if v.overBudget current then satAdd Config.overloadLimit v.overload Config.overloadUp
  else v.overload - Config.overloadDown

/-- R46 steps 1 and 2: a sample is stored and the accumulator updated. -/
def Supervisor.store (v : Supervisor) (current voltage : Code) : Supervisor :=
  { v with current, voltage, overload := v.accumulate current }

/-- R49: the low-supply count after a sample. -/
def Supervisor.lowAfter (v : Supervisor) (voltage : Code) : Nat :=
  if voltage.toNat < Config.goodVoltage then v.lowCount + 1 else 0

/-- R51, R13 step 2: the switch of a lane opens, and the lane's pending converter jobs are withdrawn. -/
def openSwitch (n : Lane) (s : State) : State :=
  (s.modSupervisor n Supervisor.switchOff).modConverter fun c => c.withdraw n

end Sys2Proof.Machine
end

