-- ==== Sys2Proof/Machine/LaneOps.lean ====
section
/-!
DEFINITION. The lane controller's operations: transitions and their notices, entries into each state, leaving the
powered states, faults (R1 to R22), and what they start and stop in the walk unit, the roll-call unit and the transfer
slot (R89, R92, R111, R133).
-/

namespace Sys2Proof.Machine

/-! ## Transitions and their notices (R19, R153) -/

/-- R19, R153: a lane's state changes, LANE_STATE is raised with the reason and what it carries, and the naming unit is
told at the end of the transition. The transition's own actions have been taken on `s` already. -/
def transition (n : Lane) (entered : LaneState) (reason : Reason) (carried : Option (SupplyClass × Int)) (s : State) :
    State :=
  let moved := s.modCtl n fun c => { c with state := entered }
  let told := raise (.laneState n { state := entered, reason, count := 1, signature := carried, powerGood := none }) moved
  if causedByTransition s moved then passDue told else told

/-! ## The transfer slot's endings (R89) -/

/-- R89: a read ends: its reply, with the whole chunks read, is placed in the reply queue, and the slot is FREE. -/
def endRead (n : Lane) (st : Status) (r : Read) (s : State) : State :=
  let freed := (s.setSlot n .free).modPort fun p => { p with owed := p.owed.set n none }
  match s.port.owed.get n with
  | none => freed
  | some tag =>
    placeReply { tag, code := 0x06, status := st, payload := BitVec.ofNat 8 r.bytes.length :: r.bytes } freed

/-- R89: an abort reaches the slot: a read in flight ends LANE_GONE. -/
def abortRead (n : Lane) (s : State) : State :=
  match (s.col n).slot with
  | .free => s
  | .busy r => endRead n .laneGone r s

/-! ## Start and abort of a walk (R92, R111) -/

/-- R92: the walk unit at a walk's start. -/
def WalkUnit.started : WalkUnit := { WalkUnit.reset with phase := .releasing, record := WalkRecord.start .running }

/-- R92: a walk starts: the opening RELEASE to handle 31 is placed. -/
def startWalk (n : Lane) (s : State) : State :=
  placeRequest n .procedure (releaseRequest Config.allHandle) (s.modWalk n fun _ => WalkUnit.started)

/-- R106, R111: the walk stack, the junction lists and the pending binding are emptied. -/
def WalkUnit.emptied (w : WalkUnit) : WalkUnit := { w with stack := [], root := JunctionList.empty, binding := none }

/-- R111: the walk unit after an abort. -/
def WalkUnit.aborted (w : WalkUnit) : WalkUnit :=
  { w.emptied with phase := .idle, record := { w.record with outcome := .aborted } }

/-- R110, R111: a walk that runs is aborted, and its bindings so far are counted in ROSTER. -/
def abortWalk (n : Lane) (s : State) : State :=
  if (s.col n).walk.phase = .idle then s
  else
    raiseRoster n (s.col n).walk.record.added 0 (s.col n).walk.record.refound (s.modWalk n WalkUnit.aborted)

/-! ## Start and stop of roll call (R133) -/

/-- R133: the lane enters READY. -/
def startRoll (n : Lane) (s : State) : State :=
  s.modRoll n fun r =>
    { r with
      phase := .waiting, deferred := false, position := none, period := .running s.settings.rollCallPeriod }

/-- R133: the lane leaves READY; the used count is kept. -/
def RollCall.stopped (r : RollCall) : RollCall :=
  { r with phase := .inactive, deferred := false, position := none, period := .stopped }

/-- R133: roll call stops. -/
def stopRoll (n : Lane) (s : State) : State := s.modRoll n RollCall.stopped

/-! ## Leaving the powered states (R13, R14) -/

/-- R13 steps 1 to 6. -/
def leavePowered (n : Lane) (s : State) : State :=
  let opened := (openSwitch n s).modCtl n fun c => { c with bootWait := .stopped, rewalkWaiting := false }
  abortRead n (abortLine n (stopRoll n (abortWalk n opened)))

/-- R14: the re-mate hold timer starts with the hold in force; with a hold of 0 the lane's AWAY entries go at once. -/
def startHold (n : Lane) (s : State) : State :=
  if s.settings.remateHold = 0 then removeAway n s
  else s.modCtl n fun c => { c with hold := .running s.settings.remateHold }

/-- R13: the actions of leaving the powered states for PARTING or FAULT. -/
def departPowered (n : Lane) (s : State) : State := startHold n (turnAway n (leavePowered n s))

/-! ## Entries into the states -/

/-- R3: SETTLING is entered: the settle timer starts, and the sweep re-walks used count is set to 0. -/
def enterSettling (n : Lane) (reason : Reason) (s : State) : State :=
  transition n .settling reason none
    ((s.modCtl n fun c => { c with settle := .running s.settings.mateSettle }).modRoll n fun r => { r with used := 0 })

/-- R24, R35: the lane places the point job that its record's order puts next. -/
def placePoint (n : Lane) (s : State) : State :=
  s.modConverter fun c => c.place (.point (s.col n).ctl.record.nextPoint) n

/-- R4, R30: SIGNATURE is entered: a new series starts with the record cleared and the first P1 placed. -/
def enterSignature (n : Lane) (reason : Reason) (s : State) : State :=
  transition n .signature reason none
    (placePoint n (s.modCtl n fun c => { c with record := SignatureRecord.cleared.beginAttempt }))

/-- R4, R6: AWAIT_GRANT is entered: the grant window starts and the mark is FRESH. -/
def enterAwaitGrant (n : Lane) (reason : Reason) (carried : Option (SupplyClass × Int)) (s : State) : State :=
  transition n .awaitGrant reason carried
    (s.modCtl n fun c => { c with grantWindow := .running Config.grantWindow, mark := .fresh })

/-- R8: POWERING is entered: the record's class is handed over and the switch closed, which starts the inrush
window. -/
def enterPowering (n : Lane) (reason : Reason) (carried : Option (SupplyClass × Int)) (s : State) : State :=
  transition n .powering reason carried (s.modSupervisor n fun v => v.switchOn (s.col n).ctl.record.cls)

/-- R10: WALKING is entered: the re-mate hold timer stops and the walk starts. -/
def enterWalking (n : Lane) (reason : Reason) (s : State) : State :=
  transition n .walking reason none (startWalk n (s.modCtl n fun c => { c with hold := .stopped }))

/-- R11: what each exit from READY for WALKING does: roll call stops, the line is aborted, a read in flight ends
LANE_GONE, the re-walk waiting mark is cleared. -/
def leaveReady (n : Lane) (s : State) : State :=
  abortRead n (abortLine n (stopRoll n (s.modCtl n fun c => { c with rewalkWaiting := false })))

/-- R11: READY is entered. -/
def enterReady (n : Lane) (s : State) : State := transition n .ready .walkDone none (startRoll n s)

/-- R15: PARTING is entered: the settle timer starts. -/
def enterParting (n : Lane) (s : State) : State :=
  transition n .parting .opened none (s.modCtl n fun c => { c with settle := .running s.settings.mateSettle })

/-- R16: FAULT is entered: the code is stored, and LANE_FAULT raised with it and the readings given. -/
def enterFault (n : Lane) (code : FaultCode) (current voltage : Code) (s : State) : State :=
  transition n .fault .faulted none
    (raise (.laneFault n { code, current, voltage }) (s.modCtl n fun c => { c with fault := code }))

/-- R13, R16: a fault of a powered lane; a report that finds the lane in none of the powered states is discarded. -/
def faultPowered (n : Lane) (code : FaultCode) (current voltage : Code) (s : State) : State :=
  if (s.laneState n).powered then enterFault n code current voltage (departPowered n s) else s

/-! ## Open and mate events (R2, R3, R15) -/

/-- R29, R35: the lane withdraws its pending converter jobs. -/
def withdrawJobs (n : Lane) (s : State) : State := s.modConverter fun c => c.withdraw n

/-- An open event taken by the lane controller, state by state (R3 to R6, R8, R10, R11, R15, R17, R18). -/
def openAction (n : Lane) (s : State) : State :=
  match s.laneState n with
  | .off | .empty => s
  | .settling => transition n .empty .opened none (s.modCtl n fun c => { c with settle := .stopped })
  | .signature => enterParting n (withdrawJobs n (s.modCtl n fun c => { c with grantPending := none }))
  | .awaitGrant => enterParting n (s.modCtl n fun c => { c with grantWindow := .stopped })
  | .powering | .walking | .ready => enterParting n (departPowered n s)
  | .parting => s.modCtl n fun c => { c with settle := .running s.settings.mateSettle }
  | .fault => enterParting n s

/-- A mate event taken by the lane controller (R3, R15); entering SETTLING starts the settle timer anew. -/
def mateAction (n : Lane) (s : State) : State :=
  match s.laneState n with
  | .empty | .parting => enterSettling n .mated s
  | .off | .settling | .signature | .awaitGrant | .powering | .walking | .ready | .fault => s

/-- R2: the lane controller stores the comparator reading. -/
def setReading (n : Lane) (x : Reading) (s : State) : State := s.modCtl n fun c => { c with reading := x }

/-! ## Series verdicts (R4, R6, R28) -/

/-- R4, R6: a VALID verdict is acted on: by the pending grant where there is one, else by the grant policy. -/
def actOnValid (n : Lane) (s : State) : State :=
  let c := (s.col n).ctl
  let carried := c.record.cls.bind fun x => c.record.slope.map fun v => (x, v)
  match c.grantPending with
  | some _ =>
    let spent := s.modCtl n fun c => { c with grantPending := none }
    if c.grantPending = c.record.cls then enterPowering n .signatureValid carried spent
    else enterAwaitGrant n .classChanged carried spent
  | none =>
    match s.settings.policy.get n with
    | .auto => enterPowering n .signatureValid carried s
    | .held => enterAwaitGrant n .signatureValid carried s

/-- R4, R6, R16: a series ends SIGNATURE_SHORT or SIGNATURE_BAD: the grant pending mark is cleared, and the lane enters
FAULT. -/
def failSeries (n : Lane) (final : FinalVerdict) (code : FaultCode) (s : State) : State :=
  enterFault n code 0 0
    (withdrawJobs n (s.modCtl n fun c => { c with grantPending := none, record := { c.record with final } }))

/-- R24, R28: what follows a point job's result that has been written into the record. -/
def continueSeries (n : Lane) (s : State) : State :=
  let r := (s.col n).ctl.record
  match r.attemptVerdict with
  | none => placePoint n s
  | some .valid => actOnValid n (s.modCtl n fun c => { c with record := c.record.endValid })
  | some .signatureShort => failSeries n .signatureShort .signatureShort s
  | some .spread | some (.failed _) =>
    if r.attempts < Config.seriesAttempts then
      placePoint n (s.modCtl n fun c => { c with record := c.record.beginAttempt })
    else failSeries n .signatureBad .signatureBad s

/-- R37: a point job's voltage code is written into the record, and the series goes on. -/
def pointResult (n : Lane) (code : Code) (s : State) : State :=
  continueSeries n (s.modCtl n fun c => { c with record := c.record.writePoint code })

/-! ## The supervisor's reports (R45 to R50) -/

/-- R50: the supervisor opens the switch by itself and then reports a fault, with the readings it held before the
opening (R52). -/
def supplyFault (n : Lane) (code : FaultCode) (s : State) : State :=
  faultPowered n code (s.col n).supervisor.current (s.col n).supervisor.voltage (openSwitch n s)

/-- R9, R47: power good passes: POLICING, the boot wait starts, LANE_STATE carries the voltage code. -/
def powerGood (n : Lane) (voltage : Code) (s : State) : State :=
  raise
    (.laneState n { state := .powering, reason := .powerGood, count := 1, signature := none, powerGood := some voltage })
    ((s.modSupervisor n fun v => { v with phase := .policing, lowCount := 0 }).modCtl n fun c =>
      { c with bootWait := .running s.settings.bootWait })

/-- R47: the lane controller decides power good from the power-good sample. -/
def decidePowerGood (n : Lane) (voltage : Code) (s : State) : State :=
  if Config.goodVoltage ≤ voltage.toNat then powerGood n voltage s else faultPowered n .noPowerGood 0 0 s

/-- R49: the low-supply count takes a sample. -/
def policeVoltage (n : Lane) (voltage : Code) (s : State) : State :=
  let counted := s.modSupervisor n fun v => { v with lowCount := v.lowAfter voltage }
  if Config.lowSupplyLimit ≤ (counted.col n).supervisor.lowCount then supplyFault n .supplyLow counted else counted

/-- R46: a sample handed to the supervisor, its steps in order. -/
def sampleResult (n : Lane) (current voltage : Code) (s : State) : State :=
  let stored := s.modSupervisor n fun v => v.store current voltage
  if Config.overloadLimit ≤ (stored.col n).supervisor.overload then supplyFault n .overload stored
  else
    match (stored.col n).supervisor.phase with
    | .check => decidePowerGood n voltage stored
    | .policing => policeVoltage n voltage stored
    | .idle | .inrush => stored

/-- R45: a current of a lane is shown to its trip comparator. -/
def tripCheck (n : Lane) (milliamps : Nat) (s : State) : State :=
  if (s.col n).supervisor.trips milliamps then supplyFault n .short s else s

end Sys2Proof.Machine
end

