-- ==== Sys2Proof/Machine/RollOps.lean ====
section
/-!
DEFINITION. The roll-call unit (R132 to R142) and the lane's transfer slot (R88, R89, R12).
-/

namespace Sys2Proof.Machine

/-! ## A period's work (R134, R135, R137) -/

/-- R137: the handles of the lane's PRESENT and LOST entries, ascending. -/
def State.probedHandles (s : State) (n : Lane) : List Nat :=
  ((s.table.ofLane n).filter Entry.bound).map (·.key.handle)

/-- R137: the lowest such handle above the probe position. -/
def State.nextProbe (s : State) (n : Lane) : Option Nat :=
  (s.probedHandles n).find? fun h =>
    match (s.col n).roll.position with
    | none => true
    | some p => p < h

/-- R137: a PROBE is placed, and the probe position set to its handle. -/
def placeProbe (n : Lane) (h : Nat) (s : State) : State :=
  placeRequest n .procedure (probeRequest h)
    (s.modRoll n fun r => { r with phase := .probing, position := some h })

/-- R134, R137: a period's work has ended with no further one owed. -/
def restRoll (n : Lane) (s : State) : State :=
  s.modRoll n fun r => { r with phase := .waiting, position := none }

/-- R135: the sweep decision from the settings in force. -/
def State.sweeps (s : State) (n : Lane) : Bool :=
  s.settings.sweep && decide ((s.col n).roll.used < s.settings.sweepBudget)

/-- R135: a period's work starts: the sweep, or the first PROBE, or at once the work's end. -/
def startWork (n : Lane) (s : State) : State :=
  if s.sweeps n then
    placeRequest n .procedure enrolRequest (s.modRoll n fun r => { r with phase := .sweeping, position := none })
  else
    match s.nextProbe n with
    | some h => placeProbe n h s
    | none => restRoll n s

/-- R134: a period's work ends; a deferred one starts at once. -/
def endWork (n : Lane) (s : State) : State :=
  if (s.col n).roll.deferred then startWork n (s.modRoll n fun r => { r with deferred := false, position := none })
  else restRoll n s

/-- R137: the next PROBE, or the end of the period's work. -/
def probeNext (n : Lane) (s : State) : State :=
  match s.nextProbe n with
  | some h => placeProbe n h s
  | none => endWork n s

/-- R134: an expiry of the period timer restarts it; WAITING starts the work, SWEEPING and PROBING defer it. -/
def periodExpiry (n : Lane) (s : State) : State :=
  let restarted := s.modRoll n fun r => { r with period := .running s.settings.rollCallPeriod }
  match (s.col n).roll.phase with
  | .waiting => startWork n restarted
  | .sweeping | .probing => restarted.modRoll n fun r => { r with deferred := true }
  | .inactive | .halted => s

/-! ## The sweep (R12, R136) -/

/-- R12: the lane is walked again for a sweep answer. -/
def sweepRewalk (n : Lane) (s : State) : State := enterWalking n .sweepAnswer (leaveReady n s)

/-- R136: the roll-call unit at a sweep answer. -/
def RollCall.answered (r : RollCall) : RollCall :=
  { r with phase := .halted, period := .stopped, deferred := false, position := none, used := r.used + 1 }

/-- R12: the lane controller takes a sweep answer: at once with no read in flight, else the re-walk waits. -/
def takeSweepAnswer (n : Lane) (s : State) : State :=
  match (s.col n).slot with
  | .free => sweepRewalk n s
  | .busy _ => s.modCtl n fun c => { c with rewalkWaiting := true }

/-- R136: whether a sweep's result is an answer. -/
def TransactionReport.answers (p : TransactionReport) : Bool := p.result == .done || p.failedWith .badCheck

/-- R136: the result of the sweep. -/
def sweepResult (n : Lane) (p : TransactionReport) (s : State) : State :=
  if p.answers then takeSweepAnswer n (s.modRoll n RollCall.answered)
  else probeNext n (s.modRoll n fun r => { r with phase := .probing, position := none })

/-! ## Probing (R138) -/

/-- R138: a PROBE ended DONE: the status byte is stored, the miss count is 0, a LOST entry is PRESENT again. -/
def Entry.answered (status : Option Byte) (e : Entry) : Entry :=
  { e with
    status := status.or e.status
    miss := 0
    state := match e.state with
      | .present | .lost => .present
      | .away => .away }

/-- R138: a PROBE failed: the miss count grows, saturating at the loss count, where a PRESENT entry becomes LOST. -/
def Entry.missed (loss : Nat) (e : Entry) : Entry :=
  { e with
    miss := satAdd loss e.miss 1
    state := match e.state with
      | .present => if satAdd loss e.miss 1 = loss then .lost else .present
      | .lost => .lost
      | .away => .away }

/-- R138: what a PROBE's result makes of its entry. -/
def probed (loss : Nat) (p : TransactionReport) (e : Entry) : Entry :=
  if p.result = .done then e.answered (p.bytesRead.bind List.head?) else e.missed loss

/-- R129, R138: a PROBE's result is written; a change between PRESENT and LOST counts 1 in ROSTER changed. -/
def writeProbe (n : Lane) (h : Nat) (p : TransactionReport) (s : State) : State :=
  match s.table.find ⟨n, h⟩ with
  | none => s
  | some e =>
    raiseRoster n 0 0 (if (probed s.settings.lossCount p e).state = e.state then 0 else 1)
      (s.modTable fun t => t.write ⟨n, h⟩ (probed s.settings.lossCount p))

/-- R137, R138: the result of a PROBE. -/
def probeResult (n : Lane) (p : TransactionReport) (s : State) : State :=
  match (s.col n).roll.position with
  | some h => probeNext n (writeProbe n h p s)
  | none => probeNext n s

/-- The result of a transaction handed to the roll-call unit, by its phase (R132). -/
def rollResult (n : Lane) (p : TransactionReport) (s : State) : State :=
  match (s.col n).roll.phase with
  | .sweeping => sweepResult n p s
  | .probing => probeResult n p s
  | .inactive | .waiting | .halted => s

/-! ## The transfer slot (R88, R89) -/

/-- R88: the next offset of a read. -/
def Read.next (r : Read) : Nat := r.offset + r.bytes.length

/-- R88: the bytes of a read that remain. -/
def Read.remaining (r : Read) : Nat := r.count - r.bytes.length

/-- R88: the PEEK of a read's next chunk is placed. -/
def placeChunk (n : Lane) (r : Read) (s : State) : State :=
  placeRequest n .transfer (peekRequest r.handle r.next (min Config.chunkLimit r.remaining)) s

/-- R12, R89: a read ends by itself; a re-walk that waits for it is made. -/
def finishRead (n : Lane) (st : Status) (r : Read) (s : State) : State :=
  let ended := endRead n st r s
  if (s.col n).ctl.rewalkWaiting then sweepRewalk n ended else ended

/-- R88: a chunk ended DONE: its bytes join the read, and the next chunk is placed or the read completes. -/
def chunkDone (n : Lane) (r : Read) (bytes : List Byte) (s : State) : State :=
  let grown := { r with bytes := r.bytes ++ bytes }
  if grown.remaining = 0 then finishRead n .ok grown (s.setSlot n (.busy grown))
  else placeChunk n grown (s.setSlot n (.busy grown))

/-- R88, R89: the result of a chunk. -/
def transferResult (n : Lane) (p : TransactionReport) (s : State) : State :=
  match (s.col n).slot with
  | .free => s
  | .busy r =>
    match p.result with
    | .done => chunkDone n r (p.bytesRead.getD []) s
    | .range => finishRead n .range r s
    | .failed => finishRead n .lineError r s

end Sys2Proof.Machine
end

