-- ==== Sys2Proof/Machine/WalkOps.lean ====
section
/-!
DEFINITION. The walk unit: the opening release, rounds, binding, junctions, stops and the walk's end (R91 to R115).
-/

namespace Sys2Proof.Machine

/-! ## The walk record and the table's flags -/

/-- R109: a reason is noted; one noted twice appears once. -/
def WalkReasons.note (r : WalkReasons) : WalkReason → WalkReasons
  | .enrolFailed => { r with enrolFailed := true }
  | .depthLimit => { r with depthLimit := true }
  | .legFailed => { r with legFailed := true }
  | .tableFull => { r with tableFull := true }
  | .handlesExhausted => { r with handlesExhausted := true }
  | .lineFault => { r with lineFault := true }

/-- R109: the walk notes a reason. -/
def noteReason (n : Lane) (x : WalkReason) (s : State) : State :=
  s.modWalk n fun w => { w with record := { w.record with reasons := w.record.reasons.note x } }

/-- R103: the table sets DEPTH_LIMIT on a junction's entry, and the walk notes the reason. -/
def flagDepthLimit (n : Lane) (s : State) (h : Nat) : State :=
  noteReason n .depthLimit
    (s.modTable fun t => t.write ⟨n, h⟩ fun e => { e with flags := { e.flags with depthLimit := true } })

/-- R104, R105, R107: the table sets LEG_FAILED on a junction's entry, and the walk notes the reason. -/
def flagLegFailed (n : Lane) (h : Nat) (s : State) : State :=
  noteReason n .legFailed
    (s.modTable fun t => t.write ⟨n, h⟩ fun e => { e with flags := { e.flags with legFailed := true } })

/-! ## The walk's end (R107, R108) -/

/-- R107: whether FINISHING opens a junction's legs. -/
def Entry.opensAtEnd (depth : Nat) (e : Entry) : Bool :=
  e.state == .present && e.cls == Config.junctionClass && e.depth == depth && !e.flags.depthLimit && !e.flags.legFailed

/-- R107: the junctions FINISHING opens, as depth and handle: depth 0 first, then depth 1, handles ascending. -/
def State.walkEndJunctions (s : State) (n : Lane) : List (Nat × Nat) :=
  [0, 1].flatMap fun d => ((s.table.ofLane n).filter (Entry.opensAtEnd d)).map fun e => (d, e.key.handle)

/-- R107: whether a junction comes after the one just handled. -/
def comesAfter (done : Option (Nat × Nat)) (x : Nat × Nat) : Bool :=
  match done with
  | none => true
  | some y => y.1 < x.1 || (y.1 == x.1 && y.2 < x.2)

/-- R108 step 2: the outcome at the walk's end. -/
def WalkRecord.ended (r : WalkRecord) (removed : Nat) : WalkRecord :=
  { r with removed, outcome := if r.reasons = WalkReasons.empty then .complete else .incomplete }

/-- R108: the walk ends: AWAY entries go, the outcome is set, ROSTER is raised (R110), and the lane enters READY. -/
def endWalk (n : Lane) (s : State) : State :=
  let gone := s.table.awayOf n
  let ended := (s.modTable fun t => t.remove gone).modWalk n fun w =>
    { w.emptied with phase := .idle, record := w.record.ended gone.length }
  enterReady n
    (raiseRoster n (s.col n).walk.record.added gone.length (s.col n).walk.record.refound ended)

/-- R107, R108: the next walk-end leg opening, or the walk's end when none is left. -/
def finishNext (n : Lane) (done : Option (Nat × Nat)) (s : State) : State :=
  match (s.walkEndJunctions n).find? (comesAfter done) with
  | some x => placeRequest n .procedure (legRequest x.2 0x03) s
  | none => endWalk n s

/-- R106, R107: the walk unit moves to FINISHING. -/
def enterFinishing (n : Lane) (s : State) : State :=
  finishNext n none (s.modWalk n fun w => { w.emptied with phase := .finishing })

/-- R106: the walk stops, its reason noted, without closing the legs of its frames. -/
def stopWalk (n : Lane) (x : WalkReason) (s : State) : State := enterFinishing n (noteReason n x s)

/-- R107: the result of a walk-end LEG. -/
def finishingResult (n : Lane) (h : Nat) (p : TransactionReport) (s : State) : State :=
  let judged := if p.result = .done then s else flagLegFailed n h s
  finishNext n (some (((s.table.find ⟨n, h⟩).map Entry.depth).getD 0, h)) judged

/-! ## Rounds (R95, R100) -/

/-- R95: an ENROL is placed, which is one round. -/
def placeRound (n : Lane) (s : State) : State :=
  placeRequest n .procedure enrolRequest
    (s.modWalk n fun w =>
      { w with
        phase := .rounds, record := { w.record with rounds := satAdd Config.wordCount w.record.rounds 1 } })

/-- R95, R100: a segment's rounds start with the consecutive failed round count at 0. -/
def startRounds (n : Lane) (s : State) : State := placeRound n (s.modWalk n fun w => { w with failedInRow := 0 })

/-! ## Junctions (R101 to R105) -/

/-- R91: the junction list of the segment being explored. -/
def WalkUnit.list (w : WalkUnit) : JunctionList :=
  match w.stack with
  | [] => w.root
  | f :: _ => f.list

/-- The walk unit with the junction list of the segment being explored replaced. -/
def WalkUnit.withList (w : WalkUnit) (l : JunctionList) : WalkUnit :=
  match w.stack with
  | [] => { w with root := l }
  | f :: fs => { w with stack := { f with list := l } :: fs }

/-- R102 step 1: the frame of a junction's leg A is pushed and its LEG placed. -/
def openLegA (n : Lane) (j : Nat) (s : State) : State :=
  placeRequest n .procedure (legRequest j 0x01)
    (s.modWalk n fun w =>
      { w with phase := .junctions, stack := { junction := j, leg := .a, list := JunctionList.empty } :: w.stack })

/-- The walk unit with its top frame turned to leg B and a fresh list. -/
def WalkUnit.toLegB (w : WalkUnit) : WalkUnit :=
  match w.stack with
  | [] => { w with phase := .junctions }
  | f :: fs => { w with phase := .junctions, stack := { f with leg := .b, list := JunctionList.empty } :: fs }

/-- R102 step 2: the top frame's leg becomes B and its LEG is placed. -/
def openLegB (n : Lane) (j : Nat) (s : State) : State :=
  placeRequest n .procedure (legRequest j 0x02) (s.modWalk n WalkUnit.toLegB)

/-- R102 step 3: the LEG that closes both legs is placed. -/
def closeLegs (n : Lane) (j : Nat) (s : State) : State :=
  placeRequest n .procedure (legRequest j 0x00) (s.modWalk n fun w => { w with phase := .junctions })

/-- R101, R102: a segment is done: the root's ends the exploration, a frame's goes on with its junction's sequence. -/
def segmentDone (n : Lane) (s : State) : State :=
  match (s.col n).walk.stack with
  | [] => enterFinishing n s
  | f :: _ =>
    match f.leg with
    | .a => openLegB n f.junction s
    | .b => closeLegs n f.junction s

/-- R101, R103: the next junction of the segment's list is taken: explored below the stack's limit; at it, every
remaining one is flagged DEPTH_LIMIT and passed. -/
def takeJunction (n : Lane) (s : State) : State :=
  let w := (s.col n).walk
  match w.list.handles.drop w.list.taken with
  | [] => segmentDone n s
  | j :: rest =>
    if w.stack.length < Config.walkDepth then
      openLegA n j (s.modWalk n fun w => w.withList { w.list with taken := w.list.taken + 1 })
    else
      segmentDone n
        (((j :: rest).foldl (flagDepthLimit n) s).modWalk n fun w =>
          w.withList { w.list with taken := w.list.handles.length })

/-- R104: a leg that did not open is passed over: leg A goes on with leg B, leg B with the closing. -/
def passLeg (n : Lane) (j : Nat) (leg : Leg) (s : State) : State :=
  match leg with
  | .a => openLegB n j (flagLegFailed n j s)
  | .b => closeLegs n j (flagLegFailed n j s)

/-- R102: the closing LEG is DONE: the frame is popped and the next junction taken. -/
def popFrame (n : Lane) (s : State) : State := takeJunction n (s.modWalk n fun w => { w with stack := w.stack.tail })

/-- R102, R104, R105: the result of a LEG placed in JUNCTIONS, whose leg byte tells the step. -/
def junctionResult (n : Lane) (r : LineRequest) (p : TransactionReport) (s : State) : State :=
  if r.out = [0x00] then
    if p.result = .done then popFrame n s else stopWalk n .legFailed (flagLegFailed n r.handle s)
  else if p.result = .done then startRounds n s
  else passLeg n r.handle (if r.out = [0x01] then .a else .b) s

/-! ## Binding (R96 to R99) -/

/-- R100: after a failed round: the segment is abandoned when the count is above the retry limit in force. -/
def judgeFailedRound (n : Lane) (s : State) : State :=
  if s.settings.retryLimit < (s.col n).walk.failedInRow then takeJunction n (noteReason n .enrolFailed s)
  else placeRound n s

/-- R99: the counts of a failed round; a pending binding is cleared. -/
def WalkUnit.failRound (w : WalkUnit) : WalkUnit :=
  { w with
    binding := none, failedInRow := w.failedInRow + 1
    record := { w.record with failedRounds := satAdd Config.wordCount w.record.failedRounds 1 } }

/-- R99: a failed round. -/
def failedRound (n : Lane) (s : State) : State := judgeFailedRound n (s.modWalk n WalkUnit.failRound)

/-- R98: with a pending binding, the walk unit moves to BINDING and places a BIND. -/
def placeBind (n : Lane) (b : PendingBinding) (s : State) : State :=
  placeRequest n .procedure (bindRequest b.identity b.handle)
    (s.modWalk n fun w => { w with phase := .binding, binding := some b })

/-- R97: the allocation's result for a NEW record. -/
def bindNew (n : Lane) (identity : Identity) (cls : Byte) (s : State) : State :=
  match allocate n s with
  | .given h s => placeBind n { identity, cls, handle := h, kind := .new } s
  | .handlesExhausted s => stopWalk n .handlesExhausted s
  | .tableFull s => stopWalk n .tableFull s

/-- R96: a winning round's record is looked up among the lane's entries. -/
def winningRound (n : Lane) (record : List Byte) (s : State) : State :=
  let identity := identityOf record
  let cls := classOf record
  match (s.table.ofLane n).find? fun e => e.identity == identity with
  | none => bindNew n identity cls s
  | some e =>
    match e.state with
    | .away => placeBind n { identity, cls, handle := e.key.handle, kind := .refound } s
    | .present | .lost => failedRound n s

/-- R95: the result of a round's ENROL. -/
def roundResult (n : Lane) (p : TransactionReport) (s : State) : State :=
  if p.result = .done then winningRound n (p.bytesRead.getD []) s
  else if p.failedWith .noAck then takeJunction n s
  else failedRound n s

/-- R98: where a device bound now stands in the tree: depth, parent handle, leg. -/
def WalkUnit.place (w : WalkUnit) : Nat × Nat × Option Leg :=
  match w.stack with
  | [] => (0, 0, none)
  | f :: _ => (w.stack.length, f.junction, some f.leg)

/-- R98: the entry of a NEW record. -/
def newEntry (n : Lane) (b : PendingBinding) (w : WalkUnit) : Entry :=
  { key := ⟨n, b.handle⟩, identity := b.identity, cls := b.cls, state := .present
    depth := w.place.1, parent := w.place.2.1, leg := w.place.2.2
    flags := { junction := b.cls == Config.junctionClass, depthLimit := false, legFailed := false, degraded := false }
    miss := 0, errors := 0, status := none, name := none, slotRef := none }

/-- R98: what a REFOUND binding writes into the entry. -/
def Entry.refound (b : PendingBinding) (w : WalkUnit) (e : Entry) : Entry :=
  { e with
    cls := b.cls, state := .present, depth := w.place.1, parent := w.place.2.1, leg := w.place.2.2
    flags := { e.flags with
      junction := b.cls == Config.junctionClass, depthLimit := false, legFailed := false }
    miss := 0, name := none, slotRef := none }

/-- R98, R120: a REFOUND entry is PRESENT again and leaves the away list. -/
def DeviceTable.refind (t : DeviceTable) (k : EntryKey) (f : Entry → Entry) : DeviceTable :=
  { t.write k f with away := t.away.filter fun x => x != k }

/-- R91: a handle takes its place in a junction list, ascending and without duplicates. -/
def insertHandle (h : Nat) : List Nat → List Nat
  | [] => [h]
  | x :: xs => if h < x then h :: x :: xs else if h = x then x :: xs else x :: insertHandle h xs

/-- R98: the entry is written for a BIND ended DONE. -/
def writeEntry (n : Lane) (b : PendingBinding) (w : WalkUnit) (t : DeviceTable) : DeviceTable :=
  match b.kind with
  | .new => t.insert (newEntry n b w)
  | .refound => t.refind ⟨n, b.handle⟩ (Entry.refound b w)

/-- R98: the walk record counts a binding. -/
def WalkRecord.countBinding (r : WalkRecord) (k : BindingKind) : WalkRecord :=
  match k with
  | .new => { r with added := r.added + 1 }
  | .refound => { r with refound := r.refound + 1 }

/-- R98: a bound junction joins the list of the segment being explored. -/
def WalkUnit.addJunction (w : WalkUnit) (b : PendingBinding) : WalkUnit :=
  if b.cls = Config.junctionClass then
    w.withList { w.list with handles := insertHandle b.handle w.list.handles }
  else w

/-- R98: the walk unit after a good binding. -/
def WalkUnit.bound (w : WalkUnit) (b : PendingBinding) : WalkUnit :=
  { w.addJunction b with
    binding := none, failedInRow := 0, record := w.record.countBinding b.kind }

/-- R98, R99: the result of a BIND. -/
def bindResult (n : Lane) (b : PendingBinding) (p : TransactionReport) (s : State) : State :=
  if p.result = .done then
    placeRound n ((s.modTable (writeEntry n b (s.col n).walk)).modWalk n fun w => w.bound b)
  else placeRequest n .procedure (releaseRequest b.handle) s

/-- R98, R99: the result of a transaction placed in BINDING: the BIND, or the RELEASE after one that failed. -/
def bindingResult (n : Lane) (r : LineRequest) (p : TransactionReport) (s : State) : State :=
  match r.call, (s.col n).walk.binding with
  | .bind, some b => bindResult n b p s
  | _, _ => failedRound n s

/-! ## The opening step (R93, R94) -/

/-- R93: whether an opening release was disturbed. -/
def TransactionReport.disturbed (p : TransactionReport) : Bool := p.failedWith .stall || p.failedWith .collision

/-- R93, R94: the result of an opening release. -/
def openingResult (n : Lane) (p : TransactionReport) (s : State) : State :=
  if p.disturbed then
    let counted := s.modWalk n fun w => { w with releases := w.releases + 1 }
    if (counted.col n).walk.releases ≤ s.settings.retryLimit then
      placeRequest n .procedure (releaseRequest Config.allHandle) counted
    else stopWalk n .lineFault (turnAway n counted)
  else startRounds n (turnAway n s)

/-! ## Results by phase -/

/-- The result of a transaction handed to the walk unit, by its phase (R91). -/
def walkResult (n : Lane) (t : Transaction) (p : TransactionReport) (s : State) : State :=
  match (s.col n).walk.phase with
  | .idle => s
  | .releasing => openingResult n p s
  | .rounds => roundResult n p s
  | .binding => bindingResult n t.request p s
  | .junctions => junctionResult n t.request p s
  | .finishing => finishingResult n t.request.handle p s

end Sys2Proof.Machine
end

