-- ==== Sys2Proof/Machine/EngineOps.lean ====
section
/-!
DEFINITION. The ends of attempts, of closings and of transactions, with what the requester does at each
(R63, R75, R79 to R85).
-/

namespace Sys2Proof.Machine

/-- R81: the result is handed to the requester: the transfer slot, or the lane's procedure, which is the walk while
one runs and roll call otherwise. -/
def handResult (n : Lane) (t : Transaction) (p : TransactionReport) (s : State) : State :=
  match t.requester with
  | .transfer => transferResult n p s
  | .procedure => if (s.col n).walk.phase = .idle then rollResult n p s else walkResult n t p s

/-- R85: a transaction's end, taken whole: the result is handed on, what the requester places is placed, and the
arbiter grants. -/
def endTransaction (n : Lane) (t : Transaction) (p : TransactionReport) (s : State) : State :=
  lineGrant n (handResult n t p (s.modEngine n Engine.rest))

/-- R78: the next attempt of the transaction in flight. -/
def nextAttempt (n : Lane) (t : Transaction) (s : State) : State :=
  beginAttempt n (s.modEngine n fun e => { e with inFlight := some t.again })

/-- R79: after a failed attempt whose line is idle: another attempt, or the transaction's end. -/
def retryOrEnd (n : Lane) (t : Transaction) (r : AttemptResult) (s : State) : State :=
  if t.attempt < t.allowed then nextAttempt n t s else endTransaction n t (t.failedReport r) s

/-- R75: an attempt's result is handed to the engine, its slots having taken the wires through these stages. -/
def handAttempt (n : Lane) (r : AttemptResult) (stages : List WireStage) (s : State) : State :=
  s.modEngine n fun e => { e with handed := some r, driven := stages }

/-- R77, R82: a failed attempt is the latest failed one, and is counted against its entry. -/
def failAttempt (n : Lane) (t : Transaction) (r : AttemptResult) (s : State) : State :=
  countLineError ⟨n, t.request.target⟩ (s.modEngine n fun e => { e with lastFailed := some (r.outcome, r.failedByte) })

/-- R79, R80: an attempt whose result has been handed over has reached its stop. -/
def stopAttempt (n : Lane) (t : Transaction) (r : AttemptResult) (s : State) : State :=
  if r.outcome = .done then endTransaction n t (t.doneReport r) s
  else if t.refusedOffset r then endTransaction n t t.rangeReport s
  else retryOrEnd n t r (failAttempt n t r s)

/-- R77: whether the engine is in an attempt that has started, in a phase from START to STOP. -/
def EnginePhase.attempting : EnginePhase → Bool
  | .start | .header | .callOut | .callIn | .arbitrate | .stop => true
  | .idle | .idleCheck | .closing => false

/-- The transaction in flight of an engine whose attempt has started. -/
def Engine.attempted (e : Engine) : Option Transaction := if e.phase.attempting then e.inFlight else none

/-- R62, R63, R77: STALL or COLLISION ends the attempt, and the engine closes the line. -/
def breakAttempt (n : Lane) (t : Transaction) (r : AttemptResult) (stages : List WireStage) (s : State) : State :=
  (failAttempt n t r (handAttempt n r stages s)).modEngine n Engine.beginClosing

/-- R63: the closing has taken the wires through these stages. -/
def driveClosing (n : Lane) (stages : List WireStage) (s : State) : State :=
  s.modEngine n fun e => { e with driven := stages }

/-- R63, R78, R79: the end of CLOSING: the next attempt, the transaction's end (log 25), or with no transaction a rest
in which the arbiter may grant. -/
def endClosing (n : Lane) (s : State) : State :=
  match (s.col n).engine.inFlight with
  | none => lineGrant n (s.modEngine n Engine.rest)
  | some t =>
    let last := (s.col n).engine.lastFailed.getD (.stall, none)
    retryOrEnd n t { brokenResult last.1 0 with failedByte := last.2 } s

/-- R83: a stuck idle check ends the transaction without a result, and the lane controller takes LINE_STUCK in WALKING
and READY. -/
def stuckLine (n : Lane) (s : State) : State :=
  let rested := s.modEngine n Engine.rest
  match s.laneState n with
  | .walking | .ready => faultPowered n .lineStuck 0 0 rested
  | .off | .empty | .settling | .signature | .awaitGrant | .powering | .parting | .fault => lineGrant n rested

end Sys2Proof.Machine
end

