-- ==== Sys2Proof/Machine/LaneEvents.lean ====
section
/-!
DEFINITION. The commands of the lane controllers' events and timers. An event that cannot arise in the state it finds
(a change to the level the reading has, a blanked comparator, the expiry of a stopped timer) changes nothing (log 3).
-/

namespace Sys2Proof.Machine

/-- What every meaning answers. -/
abbrev Answer := Host.Outcome State Fault Refusal

/-- R2, R180: whether the lane controller follows its comparator: not while a point job of the lane blanks it, and not
while RESETN is low (log 7). -/
def State.follows (s : State) (n : Lane) : Bool := !s.converter.blanks n && !s.port.resetLow

/-- MATE_EVENT (R2, R3, R15). -/
def execMateEvent (n : Lane) (contact : Contact) (s : State) : Answer :=
  .next
    (if contact.reads = .mated ∧ (s.col n).ctl.reading = .opened ∧ s.follows n = true then
      mateAction n (setReading n .mated s)
    else s)

/-- OPEN_EVENT (R2, R15). -/
def execOpenEvent (n : Lane) (contact : Contact) (s : State) : Answer :=
  .next
    (if contact.reads = .opened ∧ (s.col n).ctl.reading = .mated ∧ s.follows n = true then
      openAction n (setReading n .opened s)
    else s)

/-- The settle timer's end in a lane (R3, R15). -/
def settleExpired (n : Lane) (s : State) : State :=
  match s.laneState n with
  | .settling => enterSignature n .settled s
  | .parting => transition n .empty .parted none s
  | .off | .empty | .signature | .awaitGrant | .powering | .walking | .ready | .fault => s

/-- SETTLE_TIMER_EXPIRY (R3, R15). -/
def execSettleTimerExpiry (n : Lane) (s : State) : Answer :=
  .next
    (if (s.col n).ctl.settle.isRunning then settleExpired n (s.modCtl n fun c => { c with settle := .stopped }) else s)

/-- GRANT_WINDOW_EXPIRY (R5): the mark is STALE; no notice is raised. -/
def execGrantWindowExpiry (n : Lane) (s : State) : Answer :=
  .next
    (if (s.col n).ctl.grantWindow.isRunning then
      s.modCtl n fun c => { c with grantWindow := .stopped, mark := .stale }
    else s)

/-- BOOT_WAIT_EXPIRY (R9): POWERING goes to WALKING. -/
def execBootWaitExpiry (n : Lane) (s : State) : Answer :=
  .next
    (if (s.col n).ctl.bootWait.isRunning then
      lineGrant n (enterWalking n .bootDone (s.modCtl n fun c => { c with bootWait := .stopped }))
    else s)

/-- REMATE_HOLD_EXPIRY (R14): every AWAY entry of the lane is removed. -/
def execRemateHoldExpiry (n : Lane) (s : State) : Answer :=
  .next
    (if (s.col n).ctl.hold.isRunning then removeAway n (s.modCtl n fun c => { c with hold := .stopped }) else s)

end Sys2Proof.Machine
end

