-- ==== Sys2Proof/Machine/LineEvents.lean ====
section
/-!
DEFINITION. The commands of the plug lines and of the roll-call period (R56 to R63, R79 to R86, R134). One that finds
the engine in a phase in which it cannot arise changes nothing (log 3).
-/

namespace Sys2Proof.Machine

/-- IDLE_CHECK_PASSED (R56, R61): the start slot begins: LDA driven low, LCK released. -/
def execIdleCheckPassed (n : Lane) (s : State) : Answer :=
  .next
    (if (s.col n).engine.phase = .idleCheck then
      s.modEngine n fun e => { e with phase := .start, lck := .released, lda := .low }
    else s)

/-- LINE_STUCK (R61, R83). -/
def execLineStuck (n : Lane) (s : State) : Answer :=
  .next (if (s.col n).engine.phase = .idleCheck then stuckLine n s else s)

/-- STALL (R58, R63, R75): in a slot in which no attempt of the transaction can stall, nothing (log 3). -/
def execStall (n : Lane) (slot : StallSlot) (s : State) : Answer :=
  .next
    (match (s.col n).engine.attempted with
    | some t =>
      match t.request.stalled slot.number slot.stopping with
      | some stages => breakAttempt n t (brokenResult .stall slot.number) stages s
      | none => s
    | none => s)

/-- COLLISION (R56, R59, R62, R63, R75): in a slot in which no attempt of the transaction can collide so, nothing (log 3). -/
def execCollision (n : Lane) (slot : CollisionSlot) (s : State) : Answer :=
  .next
    (match (s.col n).engine.attempted with
    | some t =>
      match t.request.collided slot.number slot.cause with
      | some stages => breakAttempt n t (brokenResult .collision slot.number) stages s
      | none => s
    | none => s)

/-- ATTEMPT_END (R59, R75, R79): the slots run to their stop, the result is handed to the engine, and the engine acts on
it. -/
def execAttemptEnd (n : Lane) (acks : List Bool) (bytes : List Byte) (s : State) : Answer :=
  .next
    (match (s.col n).engine.attempted with
    | some t =>
      let r := t.request.result acks bytes
      stopAttempt n t r (handAttempt n r (t.request.run acks bytes).stages s)
    | none => s)

/-- CLOSING_STOP (R63 step 3): the closing stop is made and the line is idle. -/
def execClosingStop (n : Lane) (s : State) : Answer :=
  .next (if (s.col n).engine.phase = .closing then endClosing n (driveClosing n closingStopStages s) else s)

/-- CLOSING_GIVEN_UP (R63 step 4): the closing stop is given up, both wires left released; nothing is reported. -/
def execClosingGivenUp (n : Lane) (s : State) : Answer :=
  .next (if (s.col n).engine.phase = .closing then endClosing n (driveClosing n givenUpStages s) else s)

/-- ROLL_CALL_PERIOD_EXPIRY (R134). -/
def execRollCallPeriodExpiry (n : Lane) (s : State) : Answer :=
  .next (if (s.col n).roll.period.isRunning then lineGrant n (periodExpiry n s) else s)

end Sys2Proof.Machine
end

