-- ==== Sys2Proof/Machine/Layouts.lean ====
section
/-!
DEFINITION. The byte layouts of the host link (section 11.6): frames, notices, records. Values are most significant byte
first, signed values in two's complement, unused bits 0; the bytes of an absent field whose absence a presence bit tells
are 0 (log 15).
-/

namespace Sys2Proof.Machine

/-! ## Numbers -/

/-- One byte of a number. -/
def u8 (n : Nat) : Byte := BitVec.ofNat 8 n

/-- Two bytes of a number, most significant first. -/
def u16 (n : Nat) : List Byte := [u8 (n / 256), u8 n]

/-- Two bytes of a signed number in two's complement, most significant first. -/
def s16 (x : Int) : List Byte := u16 (BitVec.ofInt 16 x).toNat

/-- Bits, bit 0 first, as a byte. -/
def bits (bs : List Bool) : Byte := u8 (bs.foldr (fun b a => b.toNat + 2 * a) 0)

/-- A mark that has a byte of its own: 01h set, 00h clear. The layouts of section 11.6 name three such marks and give none of
them a code: the more mark of ROSTER (R130), that of CAT_READ (R150) and the pending-pass mark of the match record (R167). The
values are the model's DESIGN CHOICE (log 28). -/
def markByte : Bool → Byte
  | false => 0x00
  | true => 0x01

/-! ## Codes -/

/-- The status codes. -/
def Status.byte : Status → Byte
  | .ok => 0x00
  | .malformed => 0x01
  | .refusedState => 0x02
  | .busy => 0x03
  | .noEntry => 0x04
  | .full => 0x05
  | .conflict => 0x06
  | .notFound => 0x07
  | .lineError => 0x08
  | .range => 0x09
  | .laneGone => 0x0A

/-- The reset causes. -/
def causeByte : ResetCause → Byte
  | .powerOn => 0x01
  | .resetPin => 0x02
  | .restartRequest => 0x03

/-- The lane states. -/
def LaneState.byte : LaneState → Byte
  | .off => 0x00
  | .empty => 0x01
  | .settling => 0x02
  | .signature => 0x03
  | .awaitGrant => 0x04
  | .powering => 0x05
  | .walking => 0x06
  | .ready => 0x07
  | .parting => 0x08
  | .fault => 0x09

/-- The fault codes. -/
def FaultCode.byte : FaultCode → Byte
  | .none => 0x00
  | .short => 0x01
  | .overload => 0x02
  | .noPowerGood => 0x03
  | .supplyLow => 0x04
  | .signatureBad => 0x05
  | .signatureShort => 0x06
  | .lineStuck => 0x07

/-- The reason codes. -/
def Reason.byte : Reason → Byte
  | .mated => 0x01
  | .opened => 0x02
  | .settled => 0x03
  | .signatureValid => 0x04
  | .classChanged => 0x05
  | .granted => 0x06
  | .powerGood => 0x07
  | .bootDone => 0x08
  | .walkDone => 0x09
  | .rewalkRequested => 0x0A
  | .sweepAnswer => 0x0B
  | .faulted => 0x0C
  | .cleared => 0x0D
  | .parted => 0x0E
  | .disabled => 0x0F
  | .enabled => 0x10

/-- The supply classes. -/
def SupplyClass.byte : SupplyClass → Byte
  | .a => 0x01
  | .b => 0x02
  | .c => 0x03
  | .d => 0x04

/-- A supply class that may be absent. -/
def classByte : Option SupplyClass → Byte
  | none => 0x00
  | some x => x.byte

/-- The measurement verdicts. -/
def MeasurementVerdict.byte : MeasurementVerdict → Byte
  | .opened => 0x01
  | .noisy => 0x02
  | .short => 0x03
  | .ambiguous => 0x04
  | .ofClass x => 0x10 + x.byte

/-- The attempt verdicts. -/
def AttemptVerdict.byte : AttemptVerdict → Byte
  | .spread => 0x05
  | .valid => 0x06
  | .signatureShort => 0x07
  | .failed v => v.byte

/-- The final verdicts. -/
def FinalVerdict.byte : FinalVerdict → Byte
  | .none => 0x00
  | .valid => 0x01
  | .signatureShort => 0x02
  | .signatureBad => 0x03

/-- The walk outcomes. -/
def WalkOutcome.byte : WalkOutcome → Byte
  | .none => 0x00
  | .running => 0x01
  | .complete => 0x02
  | .incomplete => 0x03
  | .aborted => 0x04

/-- The match outcomes. -/
def MatchOutcome.byte : MatchOutcome → Byte
  | .detached => 0x00
  | .noTool => 0x01
  | .ambiguous => 0x02
  | .mismatch => 0x03
  | .incomplete => 0x04
  | .named => 0x05

/-- The expectations. -/
def Expectation.byte : Expectation → Byte
  | .any => 0x00
  | .nothing => 0x01
  | .ofClass x => 0x01 + x.byte

/-- The legs, absent ones 0. -/
def legByte : Option Leg → Byte
  | none => 0x00
  | some .a => 0x01
  | some .b => 0x02

/-- The entry states. -/
def EntryState.code : EntryState → Nat
  | .present => 0
  | .lost => 1
  | .away => 2

/-- The supervision phases. -/
def SupplyPhase.byte : SupplyPhase → Byte
  | .idle => 0x00
  | .inrush => 0x01
  | .check => 0x02
  | .policing => 0x03

/-! ## Notices and frames -/

/-- The source of a notice: its lane, or 0. -/
def NoticeKey.source : NoticeKey → Byte
  | .laneState n | .laneFault n | .roster n => u8 n.number
  | .naming | .restarted => 0

/-- The kind of a notice. -/
def NoticeKey.kind : NoticeKey → Byte
  | .laneState _ => 0x01
  | .laneFault _ => 0x02
  | .roster _ => 0x03
  | .naming => 0x04
  | .restarted => 0x05

/-- A notice's payload. -/
def Notice.payload : Notice → List Byte
  | .laneState _ c =>
    [c.state.byte, c.reason.byte, u8 c.count, bits [c.signature.isSome, c.powerGood.isSome],
        classByte (c.signature.map Prod.fst)]
      ++ s16 ((c.signature.map Prod.snd).getD 0) ++ u16 ((c.powerGood.map BitVec.toNat).getD 0)
  | .laneFault _ c => c.code.byte :: (u16 c.current.toNat ++ u16 c.voltage.toNat)
  | .roster _ c => [u8 c.added, u8 c.removed, u8 c.changed]
  | .naming c =>
    u16 c.generation ++ [u8 c.tool, c.outcome.byte, u8 c.matched, u8 c.missing, u8 c.surplus]
  | .restarted cause => [causeByte cause]

/-- The body of a frame held in the buffer. -/
def HeldFrame.body : HeldFrame → List Byte
  | .reply r => [r.tag, r.code, r.status.byte] ++ r.payload
  | .notice x => [x.key.source, x.key.kind] ++ x.payload

/-- The kind of a frame held in the buffer. -/
def HeldFrame.kind : HeldFrame → Byte
  | .reply _ => 0x80
  | .notice _ => 0x81

/-- The flags byte. -/
def LinkFlags.byte (f : LinkFlags) : Byte := bits [f.short, f.full]

/-- R169: the bytes of a part frame. -/
def partFrame (x : HeldFrame) (f : LinkFlags) : List Byte := [x.kind, u8 x.body.length, f.byte] ++ x.body

/-- R169: the bytes of an EMPTY frame. -/
def emptyFrame (f : LinkFlags) : List Byte := [0x00, 0x00, f.byte]

/-! ## Records -/

/-- A measurement in the lane record; absent V read FFFFh, an absent S 8000h. -/
def Measurement.bytes (m : Measurement) : List Byte :=
  u16 ((m.v1.map BitVec.toNat).getD 0xFFFF) ++ u16 ((m.v2.map BitVec.toNat).getD 0xFFFF)
    ++ (match m.slope with
      | none => u16 0x8000
      | some x => s16 x)
    ++ [(m.verdict.map MeasurementVerdict.byte).getD 0]

/-- The signature record in the lane record: bytes 5 to 26. -/
def SignatureRecord.bytes (r : SignatureRecord) : List Byte :=
  u8 r.attempts :: (r.m1.bytes ++ r.m2.bytes
    ++ [(r.attemptVerdict.map AttemptVerdict.byte).getD 0, r.final.byte, classByte r.cls]
    ++ s16 (r.slope.getD 0) ++ s16 (r.resistance.getD 0))

/-- The supervisor in the lane record: bytes 27 to 35. -/
def Supervisor.bytes (v : Supervisor) : List Byte :=
  [bits [v.switch == .closed], v.phase.byte, classByte v.cls] ++ u16 v.current.toNat ++ u16 v.voltage.toNat
    ++ [u8 v.overload, u8 v.lowCount]

/-- The reason set in the lane record. -/
def WalkReasons.byte (r : WalkReasons) : Byte :=
  bits [r.enrolFailed, r.depthLimit, r.legFailed, r.tableFull, r.handlesExhausted, r.lineFault]

/-- The walk record in the lane record: bytes 36 to 44. -/
def WalkRecord.bytes (r : WalkRecord) : List Byte :=
  [r.outcome.byte, r.reasons.byte] ++ u16 r.rounds ++ u16 r.failedRounds ++ [u8 r.added, u8 r.refound, u8 r.removed]

/-- The lane record, 46 bytes (R33, R52, R109, R141, R175). -/
def State.laneRecord (s : State) (n : Lane) : List Byte :=
  let c := (s.col n).ctl
  [u8 n.number, c.state.byte,
      bits [c.reading == .mated, s.settings.enabled.get n, s.settings.policy.get n == .auto, c.mark == .fresh,
        c.grantPending.isSome, c.rewalkWaiting],
      classByte c.grantPending, c.fault.byte]
    ++ c.record.bytes ++ (s.col n).supervisor.bytes ++ (s.col n).walk.record.bytes ++ [u8 (s.col n).roll.used]

/-- Names are 8 bytes, padded after the last character with 00h. -/
def nameBytes (name : List Byte) : List Byte := (name ++ List.replicate 8 0x00).take 8

/-- The roster entry record, 27 bytes (R117, R130). -/
def DeviceTable.entryRecord (t : DeviceTable) (e : Entry) : List Byte :=
  [u8 e.key.lane.number, u8 e.key.handle] ++ identityBytes e.identity
    ++ [e.cls, u8 (e.state.code + 4 * e.depth + 16 * (legByte e.leg).toNat), u8 e.parent,
      bits [e.flags.junction, e.flags.depthLimit, e.flags.legFailed, e.flags.degraded], u8 e.miss, u8 e.errors,
      bits [e.status.isSome, e.name.isSome, e.slotRef.isSome, (t.awayPosition e.key).isSome], e.status.getD 0]
    ++ nameBytes (e.name.getD [])
    ++ [u8 ((e.slotRef.map SlotRef.tool).getD 0), u8 ((e.slotRef.map SlotRef.index).getD 0),
      u8 ((t.awayPosition e.key).getD 0)]

/-- The match record, 10 + n bytes (R152, R167). That its pending-pass mark is 01h when set is a DESIGN CHOICE (log 28). -/
def Naming.bytes (u : Naming) : List Byte :=
  u16 u.record.generation
    ++ [u8 u.record.tool, u.record.outcome.byte,
      u8 ((u.record.key.map fun k => k.lane.number).getD 0), u8 ((u.record.key.map EntryKey.handle).getD 0),
      u8 u.record.matched, u8 u.record.surplus, markByte u.passPending, u8 u.record.unmatched.length]
    ++ u.record.unmatched.map u8

/-- The pin flag, pin and ordinal of a slot record. -/
def Filling.bytes : Filling → List Byte
  | .pin x => 0x01 :: (identityBytes x ++ [0x00])
  | .ordinal k => 0x00 :: (identityBytes 0 ++ [u8 k])

/-- The CAT_READ record of a slot, 23 bytes (R150). -/
def slotRecord (index : Nat) (x : Slot) : List Byte :=
  u8 index :: (nameBytes x.name ++ [u8 x.lane.number, x.cls, u8 x.parent, legByte x.leg, bits [x.required]]
    ++ x.filling.bytes ++ [u8 x.depth])

end Sys2Proof.Machine
end

