-- ==== Sys2Proof/Machine/Operands.lean ====
section
/-!
DEFINITION. The operand forms of requests: lane and handle fields, expectations, the fields of a slot, settings values
(R145, R146, R175, R176).
-/

namespace Sys2Proof.Machine

/-- R175: a lane field, 1..4. -/
def laneField (b : Byte) : Option Lane :=
  match b.toNat with
  | 1 => some .one
  | 2 => some .two
  | 3 => some .three
  | 4 => some .four
  | _ => none

/-- R175: a handle field, 1..30. -/
def handleField (b : Byte) : Option Nat :=
  if 1 ≤ b.toNat ∧ b.toNat ≤ Config.handleCount then some b.toNat else none

/-- R145, 11.6: an expectation byte. -/
def expectationField (b : Byte) : Option Expectation :=
  match b.toNat with
  | 0 => some .any
  | 1 => some .nothing
  | 2 => some (.ofClass .a)
  | 3 => some (.ofClass .b)
  | 4 => some (.ofClass .c)
  | 5 => some (.ofClass .d)
  | _ => none

/-- R145: four expectation bytes. -/
def expectationsField (p : PerLane Byte) : Option (PerLane Expectation) :=
  match expectationField p.one, expectationField p.two, expectationField p.three, expectationField p.four with
  | some a, some b, some c, some d => some ⟨a, b, c, d⟩
  | _, _, _, _ => none

/-- R146: a name field of 8 bytes: 1 to 8 characters of 21h..7Eh, the first not "~", then 00h to the end. -/
def nameField (bytes : List Byte) : Option (List Byte) :=
  let name := bytes.takeWhile (· != 0)
  if name ≠ [] ∧ (bytes.drop name.length).all (· == 0) ∧ name.all (fun c => 0x21 ≤ c.toNat && c.toNat ≤ 0x7E)
      ∧ name.head? ≠ some 0x7E then some name
  else none

/-- R146: the leg byte: 00h none, 01h A, 02h B. -/
def legField (b : Byte) : Option (Option Leg) :=
  match b.toNat with
  | 0 => some none
  | 1 => some (some .a)
  | 2 => some (some .b)
  | _ => none

/-- R146: a byte that must be 00h or 01h. -/
def boolField (b : Byte) : Option Bool :=
  match b.toNat with
  | 0 => some false
  | 1 => some true
  | _ => none

/-- R146: pin flag, pin and ordinal: a pin with ordinal 0, or no pin with zero pin bytes and an ordinal of 1..8. -/
def fillingField (flag : Byte) (pin : Identity) (ordinal : Byte) : Option Filling :=
  match flag.toNat with
  | 0 => if pin = 0 ∧ 1 ≤ ordinal.toNat ∧ ordinal.toNat ≤ 8 then some (.ordinal ordinal.toNat) else none
  | 1 => if ordinal = 0 then some (.pin pin) else none
  | _ => none

/-- R146 step 1: the slot fields of a request, or none where a check of RANGE fails; the depth is derived later. -/
def slotField (x : SlotBytes) : Option Slot :=
  match nameField x.name, laneField x.lane, legField x.leg, boolField x.required,
    fillingField x.pinFlag x.pin x.ordinal with
  | some name, some lane, some leg, some required, some filling =>
    some { name, lane, cls := x.cls, parent := x.parent.toNat, leg, required, filling, depth := 0 }
  | _, _, _, _, _ => none

/-! ## Settings values (R176) -/

/-- R176: a value brought into a range and rounded down to a whole step. -/
def clampStep (low high step v : Nat) : Nat :=
  if v < low then low else if high < v then high else v / step * step

/-- R176: a line rate value is taken as the next lower supported rate, below 25 as 25. -/
def rateOf (v : Nat) : LineRate :=
  if 200 ≤ v then .k200 else if 100 ≤ v then .k100 else if 50 ≤ v then .k50 else .k25

/-- The kbit/s of a line rate (R55). -/
def LineRate.kbits : LineRate → Nat
  | .k25 => 25
  | .k50 => 50
  | .k100 => 100
  | .k200 => 200

/-- The settings of the settings table (R176). -/
inductive SettingId where
  | mateSettle | remateHold | bootWait | stallLimit | retryLimit | rollCallPeriod | lossCount | degradeThreshold
  | sweep | sweepBudget
  | policy (lane : Lane)
  | enable (lane : Lane)
  | lineRate (lane : Lane)
deriving DecidableEq, Repr

/-- R176: the setting of an id, if the table names it. -/
def settingOf (id : Byte) : Option SettingId :=
  match id.toNat with
  | 0x01 => some .mateSettle
  | 0x02 => some .remateHold
  | 0x03 => some .bootWait
  | 0x04 => some .stallLimit
  | 0x05 => some .retryLimit
  | 0x06 => some .rollCallPeriod
  | 0x07 => some .lossCount
  | 0x08 => some .degradeThreshold
  | 0x09 => some .sweep
  | 0x0A => some .sweepBudget
  | 0x11 => some (.policy .one)
  | 0x12 => some (.policy .two)
  | 0x13 => some (.policy .three)
  | 0x14 => some (.policy .four)
  | 0x21 => some (.enable .one)
  | 0x22 => some (.enable .two)
  | 0x23 => some (.enable .three)
  | 0x24 => some (.enable .four)
  | 0x31 => some (.lineRate .one)
  | 0x32 => some (.lineRate .two)
  | 0x33 => some (.lineRate .three)
  | 0x34 => some (.lineRate .four)
  | _ => none

/-- R176: the value taken for a setting. -/
def SettingId.taken (x : SettingId) (v : Nat) : Nat :=
  match x with
  | .mateSettle => clampStep 10 250 10 v
  | .remateHold => clampStep 0 5000 100 v
  | .bootWait => clampStep 5 500 5 v
  | .stallLimit => clampStep 1 50 1 v
  | .retryLimit => clampStep 0 7 1 v
  | .rollCallPeriod => clampStep 50 2000 10 v
  | .lossCount => clampStep 1 7 1 v
  | .degradeThreshold => clampStep 1 255 1 v
  | .sweep => if v = 0 then 0 else 1
  | .sweepBudget => clampStep 0 15 1 v
  | .policy _ => if v = 0 then 0 else 1
  | .enable _ => if v = 0 then 0 else 1
  | .lineRate _ => (rateOf v).kbits

/-- R176: a setting takes a value that has been brought into range. -/
def Settings.put (g : Settings) (x : SettingId) (v : Nat) : Settings :=
  match x with
  | .mateSettle => { g with mateSettle := v }
  | .remateHold => { g with remateHold := v }
  | .bootWait => { g with bootWait := v }
  | .stallLimit => { g with stallLimit := v }
  | .retryLimit => { g with retryLimit := v }
  | .rollCallPeriod => { g with rollCallPeriod := v }
  | .lossCount => { g with lossCount := v }
  | .degradeThreshold => { g with degradeThreshold := v }
  | .sweep => { g with sweep := v != 0 }
  | .sweepBudget => { g with sweepBudget := v }
  | .policy n => { g with policy := g.policy.set n (if v = 0 then .held else .auto) }
  | .enable n => { g with enabled := g.enabled.set n (v != 0) }
  | .lineRate n => { g with lineRate := g.lineRate.set n (rateOf v) }

end Sys2Proof.Machine
end

