-- ==== Sys2Proof/Machine/CatalogueOps.lean ====
section
/-!
DEFINITION. The tool catalogue: its checks and its changes (R143 to R151).
-/

namespace Sys2Proof.Machine

/-! ## Lookup and counts -/

/-- The tool of a number, if it is defined (R143). -/
def Catalogue.tool (c : Catalogue) (number : Nat) : Option Tool := c.tools.find? fun t => t.number == number

/-- R143: the pool places in use. -/
def Catalogue.places (c : Catalogue) : Nat := (c.tools.map fun t => t.slots.length).sum

/-- R145: the lowest undefined tool number in 1..8. -/
def Catalogue.lowestUndefined (c : Catalogue) : Option Nat :=
  ((List.range Config.toolCount).map (· + 1)).find? fun k => (c.tool k).isNone

/-- A tool takes its place by ascending number, in the place of one with the same number. -/
def insertTool (x : Tool) : List Tool → List Tool
  | [] => [x]
  | t :: ts =>
    if x.number < t.number then x :: t :: ts else if x.number = t.number then x :: ts else t :: insertTool x ts

/-- The catalogue with one tool defined or replaced. -/
def Catalogue.define (c : Catalogue) (t : Tool) : Catalogue := { tools := insertTool t c.tools }

/-! ## Answers -/

/-- The causes of a conflict (11.6). -/
inductive ConflictCause where
  | key | laneNone | parent | depth | leg | name | position | pin
deriving DecidableEq, Repr

/-- The conflict cause codes. -/
def ConflictCause.byte : ConflictCause → Byte
  | .key => 0x01
  | .laneNone => 0x02
  | .parent => 0x03
  | .depth => 0x04
  | .leg => 0x05
  | .name => 0x06
  | .position => 0x07
  | .pin => 0x08

/-- What a catalogue request is answered: a status and a payload, and the catalogue after it. -/
structure CatalogueAnswer where
  status : Status
  payload : List Byte
  after : Option Catalogue
deriving DecidableEq, Repr

/-- A refusal, which leaves the catalogue as it was. -/
def CatalogueAnswer.refuse (st : Status) : CatalogueAnswer := { status := st, payload := [], after := none }

/-- A conflict with its cause and index or tool. -/
def CatalogueAnswer.conflict (x : ConflictCause) (index : Nat) : CatalogueAnswer :=
  { status := .conflict, payload := [x.byte, u8 index], after := none }

/-! ## CAT_TOOL (R145) -/

/-- R145 step 3: the tool other than `number` that has the key. -/
def Catalogue.keyHolder (c : Catalogue) (number : Nat) (key : Identity) : Option Tool :=
  c.tools.find? fun t => t.number != number && t.key == key

/-- R145: a tool is defined or replaced under a number, unless its key is another's. -/
def Catalogue.defineTool (c : Catalogue) (number : Nat) (key : Identity) (expects : PerLane Expectation) :
    CatalogueAnswer :=
  match c.keyHolder number key with
  | some t => .conflict .key t.number
  | none => { status := .ok, payload := [u8 number], after := some (c.define { number, key, expects, slots := [] }) }

/-- R145: the judgement of CAT_TOOL. -/
def Catalogue.judgeTool (c : Catalogue) (number : Byte) (key : Identity) (bytes : PerLane Byte) : CatalogueAnswer :=
  match expectationsField bytes with
  | none => .refuse .range
  | some expects =>
    if Config.toolCount < number.toNat then .refuse .range
    else if number = 0 then
      match c.lowestUndefined with
      | none => .refuse .full
      | some k => c.defineTool k key expects
    else c.defineTool number.toNat key expects

/-! ## CAT_SLOT (R146) -/

/-- R144: the slot of an index of a tool, counted from 1. -/
def Tool.slot (t : Tool) (index : Nat) : Option Slot := if index = 0 then none else t.slots[index - 1]?

/-- R146 steps 8 to 10: the index of the first slot of a tool that meets a test. -/
def Tool.indexWhere (t : Tool) (p : Slot → Bool) : Option Nat := (t.slots.findIdx? p).map (· + 1)

/-- R146 step 9: whether two slots are unpinned with the same lane, class, parent, leg and ordinal. -/
def Slot.samePosition (x y : Slot) : Bool :=
  !x.pinned && x.lane == y.lane && x.cls == y.cls && x.parent == y.parent && x.leg == y.leg && x.filling == y.filling

/-- R146 step 10: whether two slots have the same pin. -/
def Slot.samePin (x y : Slot) : Bool := x.pinned && x.filling == y.filling

/-- R146 step 5: whether a parent index names an earlier slot of class 01h on the slot's lane. -/
def Tool.parentFits (t : Tool) (x : Slot) : Bool :=
  match t.slot x.parent with
  | some p => p.cls == Config.junctionClass && p.lane == x.lane
  | none => false

/-- R144: the depth of a slot: 0 at the lane root, else its parent slot's plus 1. -/
def Tool.depthOf (t : Tool) (x : Slot) : Nat :=
  if x.parent = 0 then 0 else ((t.slot x.parent).map Slot.depth).getD 0 + 1

/-- R146 steps 4 to 10: the first conflict of a slot with its tool. -/
def Tool.slotConflict (t : Tool) (x : Slot) : Option (ConflictCause × Nat) :=
  if t.expects.get x.lane = .nothing then some (.laneNone, 0)
  else if x.parent ≠ 0 ∧ !t.parentFits x then some (.parent, x.parent)
  else if Config.walkDepth < t.depthOf x then some (.depth, x.parent)
  else if (x.parent == 0) == x.leg.isSome then some (.leg, 0)
  else
    match t.indexWhere fun y => y.name == x.name with
    | some i => some (.name, i)
    | none =>
      match t.indexWhere fun y => x.samePosition y with
      | some i => some (.position, i)
      | none => (t.indexWhere fun y => x.samePin y).map fun i => (.pin, i)

/-- R146: a slot that passes every check is appended, with its depth derived. -/
def Tool.append (t : Tool) (x : Slot) : Tool := { t with slots := t.slots ++ [{ x with depth := t.depthOf x }] }

/-- R146: the judgement of a slot against its tool. -/
def Catalogue.appendSlot (c : Catalogue) (t : Tool) (x : Slot) : CatalogueAnswer :=
  match t.slotConflict x with
  | some (cause, i) => .conflict cause i
  | none =>
    { status := .ok, payload := [u8 (t.slots.length + 1), u8 (t.depthOf x)], after := some (c.define (t.append x)) }

/-- R146: the judgement of CAT_SLOT. -/
def Catalogue.judgeSlot (c : Catalogue) (number : Byte) (bytes : SlotBytes) : CatalogueAnswer :=
  match slotField bytes with
  | none => .refuse .range
  | some x =>
    if number = 0 ∨ Config.toolCount < number.toNat then .refuse .range
    else
      match c.tool number.toNat with
      | none => .refuse .notFound
      | some t => if c.places < Config.poolPlaces then c.appendSlot t x else .refuse .full

/-! ## CAT_DROP (R148) -/

/-- R148: the judgement of CAT_DROP; dropping all of an empty catalogue changes nothing. -/
def Catalogue.judgeDrop (c : Catalogue) (number : Byte) : CatalogueAnswer :=
  if Config.toolCount < number.toNat then .refuse .range
  else if number = 0 then
    { status := .ok, payload := [], after := if c.tools.isEmpty then none else some { tools := [] } }
  else
    match c.tool number.toNat with
    | none => .refuse .notFound
    | some _ =>
      { status := .ok, payload := []
        after := some { tools := c.tools.filter fun t => t.number != number.toNat } }

/-! ## CAT_READ (R150) -/

/-- R150: the payload for tool number 0. -/
def Catalogue.listPayload (c : Catalogue) : List Byte :=
  [u8 c.tools.length, u8 c.places]
    ++ c.tools.flatMap fun t => u8 t.number :: (identityBytes t.key ++ [u8 t.slots.length])

/-- R150: the payload for a defined tool from a start index. That its more mark is 01h when set and 00h when clear is a DESIGN
CHOICE (log 28). -/
def Tool.readPayload (t : Tool) (start : Nat) : List Byte :=
  let after := t.indexed.filter fun p => start ≤ p.1
  let given := after.take Config.slotReadLimit
  u8 t.number :: (identityBytes t.key ++ t.expects.toList.map Expectation.byte
    ++ [u8 t.slots.length, u8 given.length, markByte (given.length < after.length)]
    ++ given.flatMap fun p => slotRecord p.1 p.2)

/-- R150: the answer to CAT_READ; a start index outside 1..64 is out of range for every tool number (log 16). -/
def Catalogue.readAnswer (c : Catalogue) (number start : Byte) : Status × List Byte :=
  if Config.toolCount < number.toNat ∨ start = 0 ∨ Config.poolPlaces < start.toNat then (.range, [])
  else if number = 0 then (.ok, c.listPayload)
  else
    match c.tool number.toNat with
    | none => (.notFound, [])
    | some t => (.ok, t.readPayload start.toNat)

end Sys2Proof.Machine
end

