-- ==== Sys2Proof/Machine/RequestOps.lean ====
section
/-!
DEFINITION. What the owning blocks do with an accepted request, its reply placed (R175 to R179), and what a hardware
reset does (R180).
-/

namespace Sys2Proof.Machine

/-- R173, R175: a reply to a request is placed. -/
def answer (tag code : Byte) (st : Status) (payload : List Byte) (s : State) : State :=
  placeReply { tag, code, status := st, payload } s

/-- R171: the reply MALFORMED, with the request code echoed and an empty payload. -/
def answerMalformed (tag code : Byte) (s : State) : State := answer tag code .malformed [] s

/-! ## STATUS and LANE_READ (R175) -/

/-- R20: the plug state as a byte. -/
def State.plugByte (s : State) : Byte :=
  if s.columns.toList.all fun c => c.ctl.state == .empty || c.ctl.state == .off then 0x00
  else if s.anyBringingUp then 0x01
  else 0x02

/-- R175: the payload of STATUS. -/
def State.statusPayload (s : State) : List Byte :=
  [s.plugByte, causeByte s.port.resetCause] ++ (s.columns.toList.map fun c => c.ctl.state.byte)
    ++ [u8 s.table.entries.length, u8 s.catalogue.tools.length] ++ u16 s.naming.record.generation

/-- R175: STATUS. -/
def takeStatus (tag : Byte) (s : State) : State := answer tag 0x01 .ok s.statusPayload s

/-- R175: LANE_READ. -/
def takeLaneRead (tag lane : Byte) (s : State) : State :=
  match laneField lane with
  | none => answer tag 0x04 .range [] s
  | some n => answer tag 0x04 .ok (s.laneRecord n) s

/-! ## CONFIGURE (R176, R18, R139) -/

/-- R18: lane enable written off to a lane that is not in OFF. -/
def disableLane (n : Lane) (s : State) : State :=
  let stopped := withdrawJobs n (s.modCtl n fun c =>
    { c with
      settle := .stopped, grantWindow := .stopped, hold := .stopped, grantPending := none, rewalkWaiting := false })
  let left := if (s.laneState n).powered then leavePowered n stopped else stopped
  transition n .off .disabled none ((removeLane n left).modCtl n fun c => { c with fault := .none })

/-- R18: lane enable written on to a lane in OFF. -/
def enableLane (n : Lane) (s : State) : State :=
  let enabled := transition n .empty .enabled none s
  if (s.col n).ctl.reading = .mated then enterSettling n .mated enabled else enabled

/-- R139: a lowered loss count sets every miss count above it to the new value. -/
def lowerMisses (loss : Nat) (t : DeviceTable) : DeviceTable :=
  { t with entries := t.entries.map fun e => if loss < e.miss then { e with miss := loss } else e }

/-- R176: what the application of a setting does besides storing it. -/
def settingEffect (x : SettingId) (v : Nat) (s : State) : State :=
  match x with
  | .enable n =>
    if v = 0 then (if s.laneState n = .off then s else disableLane n s)
    else if s.laneState n = .off then enableLane n s
    else s
  | .lossCount => if v < s.settings.lossCount then s.modTable (lowerMisses v) else s
  | .mateSettle | .remateHold | .bootWait | .stallLimit | .retryLimit | .rollCallPeriod | .degradeThreshold | .sweep
  | .sweepBudget | .policy _ | .lineRate _ => s

/-- R176: one setting is applied, with a value brought into range. -/
def applySetting (x : SettingId) (v : Nat) (s : State) : State :=
  let effected := settingEffect x v s
  { effected with settings := effected.settings.put x v }

/-- R176: one pair is applied. -/
def applyPair (s : State) (p : SettingPair) : State :=
  match settingOf p.id with
  | none => s
  | some x => applySetting x (x.taken p.value.toNat) s

/-- R176: a pair of the reply, with the value taken. -/
def SettingPair.reply (p : SettingPair) : List Byte :=
  match settingOf p.id with
  | none => []
  | some x => p.id :: u16 (x.taken p.value.toNat)

/-- R175, R176: CONFIGURE, judged whole: a number of pairs outside 1..20 or an unknown id is MALFORMED. The pairs are applied
before the reply is placed, so that the LANE_GONE reply of a read that a lane disable ends stands before CONFIGURE's own
reply; the spec does not order the two (R11, R89, R173; log 27). -/
def takeConfigure (tag : Byte) (pairs : List SettingPair) (s : State) : State :=
  if pairs.length = 0 ∨ Config.pairLimit < pairs.length ∨ pairs.any fun p => (settingOf p.id).isNone then
    answerMalformed tag 0x02 s
  else answer tag 0x02 .ok (pairs.flatMap SettingPair.reply) (pairs.foldl applyPair s)

/-! ## LANE_CONTROL (R5, R7, R11, R17) -/

/-- R5: GRANT taken in AWAIT_GRANT: to POWERING with a FRESH mark, to SIGNATURE with grant pending with a STALE one. -/
def grantLane (n : Lane) (s : State) : State :=
  match (s.col n).ctl.mark with
  | .fresh => enterPowering n .granted none (s.modCtl n fun c => { c with grantWindow := .stopped })
  | .stale => enterSignature n .granted (s.modCtl n fun c => { c with grantPending := c.record.cls })

/-- R11: REWALK taken in READY: WALKING at once; the sweep re-walks used count is set to 0. -/
def rewalkLane (n : Lane) (s : State) : State :=
  lineGrant n (enterWalking n .rewalkRequested ((leaveReady n s).modRoll n fun r => { r with used := 0 }))

/-- R17: CLEAR taken in FAULT: the fault code is NONE and the lane enters SETTLING. -/
def clearLane (n : Lane) (s : State) : State :=
  enterSettling n .cleared (s.modCtl n fun c => { c with fault := .none })

/-- R7, R175: a LANE_CONTROL action is taken in one lane state and refused in every other. The action is taken before its own
reply is placed, so that the LANE_GONE reply of a read that a REWALK ends stands before the REWALK's reply; the spec does
not order the two (R11, R89, R173; log 27). -/
def laneControl (tag lane : Byte) (taken : LaneState) (act : Lane → State → State) (s : State) : State :=
  match laneField lane with
  | none => answer tag 0x03 .range [] s
  | some n =>
    if s.laneState n = taken then answer tag 0x03 .ok [] (act n s) else answer tag 0x03 .refusedState [] s

/-- R5, R7: GRANT. -/
def takeGrant (tag lane : Byte) (s : State) : State := laneControl tag lane .awaitGrant grantLane s

/-- R7, R11: REWALK. -/
def takeRewalk (tag lane : Byte) (s : State) : State := laneControl tag lane .ready rewalkLane s

/-- R7, R17: CLEAR. -/
def takeClear (tag lane : Byte) (s : State) : State := laneControl tag lane .fault clearLane s

/-! ## ROSTER, DEVICE_CLEAR, DEVICE_READ (R128, R130, R177) -/

/-- R130: the entries at or after a start in reporting order. -/
def DeviceTable.fromStart (t : DeviceTable) (k : EntryKey) : List Entry := t.entries.filter fun e => !e.key.before k

/-- R130: the payload of ROSTER. That its more mark is 01h when set and 00h when clear is a DESIGN CHOICE (log 28). -/
def DeviceTable.rosterPayload (t : DeviceTable) (k : EntryKey) : List Byte :=
  let given := (t.fromStart k).take Config.rosterLimit
  [u8 t.entries.length, u8 given.length, markByte (given.length < (t.fromStart k).length)]
    ++ given.flatMap t.entryRecord

/-- R130: ROSTER. -/
def takeRoster (tag lane handle : Byte) (s : State) : State :=
  match laneField lane, handleField handle with
  | some n, some h => answer tag 0x05 .ok (s.table.rosterPayload ⟨n, h⟩) s
  | _, _ => answer tag 0x05 .range [] s

/-- R128: an entry's line error count is set to 0 and its DEGRADED flag cleared. -/
def Entry.cleared (e : Entry) : Entry := { e with errors := 0, flags := { e.flags with degraded := false } }

/-- R128: DEVICE_CLEAR. -/
def takeDeviceClear (tag lane handle : Byte) (s : State) : State :=
  match laneField lane, handleField handle with
  | some n, some h =>
    match s.table.find ⟨n, h⟩ with
    | none => answer tag 0x07 .noEntry [] s
    | some e =>
      answer tag 0x07 .ok []
        (raiseRoster n 0 0 (if e.flags.degraded then 1 else 0) (s.modTable fun t => t.write ⟨n, h⟩ Entry.cleared))
  | _, _ => answer tag 0x07 .range [] s

/-- R177: the count of a read brought into range. -/
def readCount (offset count : Nat) : Nat :=
  min (if count = 0 ∨ Config.readLimit < count then Config.readLimit else count) (Config.memorySpace - offset)

/-- R177: the checks of DEVICE_READ after those of range; none when the read passes. -/
def State.readRefusal (s : State) (n : Lane) (h : Nat) : Option Status :=
  if s.laneState n ≠ .ready ∨ (s.col n).ctl.rewalkWaiting then some .refusedState
  else if (s.probedHandles n).contains h then
    match (s.col n).slot with
    | .free => none
    | .busy _ => some .busy
  else some .noEntry

/-- R88, R177: a read that passes is owed its reply and is handed to the lane's transfer slot. -/
def oweRead (n : Lane) (tag : Byte) (r : Read) (s : State) : State :=
  (s.setSlot n (.busy r)).modPort fun p => { p with owed := p.owed.set n (some tag) }

/-- R88: the transfer slot places the first chunk of an accepted read. -/
def startRead (tag : Byte) (n : Lane) (r : Read) (s : State) : State :=
  lineGrant n (placeChunk n r (oweRead n tag r s))

/-- R177: DEVICE_READ. -/
def takeDeviceRead (tag lane handle offset count : Byte) (s : State) : State :=
  match laneField lane, handleField handle with
  | some n, some h =>
    match s.readRefusal n h with
    | some st => answer tag 0x06 st [] s
    | none =>
      startRead tag n
        { handle := h, offset := offset.toNat, count := readCount offset.toNat count.toNat, bytes := [] } s
  | _, _ => answer tag 0x06 .range [] s

/-! ## The catalogue requests (R145 to R150, R178) -/

/-- R149: the catalogue's judgement is applied; a change makes a naming pass due, and then the reply is placed (R178). -/
def applyCatalogue (tag code : Byte) (a : CatalogueAnswer) (s : State) : State :=
  match a.after with
  | none => answer tag code a.status a.payload s
  | some c => answer tag code a.status a.payload (passDue { s with catalogue := c })

/-- R145: CAT_TOOL. -/
def takeCatTool (tag number : Byte) (key : Identity) (expectations : PerLane Byte) (s : State) : State :=
  applyCatalogue tag 0x08 (s.catalogue.judgeTool number key expectations) s

/-- R146: CAT_SLOT; a name field that is not 8 bytes makes the payload's length wrong (R171). -/
def takeCatSlot (tag number : Byte) (slot : SlotBytes) (s : State) : State :=
  if slot.name.length = 8 then applyCatalogue tag 0x09 (s.catalogue.judgeSlot number slot) s
  else answerMalformed tag 0x09 s

/-- R148: CAT_DROP. -/
def takeCatDrop (tag number : Byte) (s : State) : State := applyCatalogue tag 0x0A (s.catalogue.judgeDrop number) s

/-- R150: CAT_READ. -/
def takeCatRead (tag number start : Byte) (s : State) : State :=
  answer tag 0x0B (s.catalogue.readAnswer number start).1 (s.catalogue.readAnswer number start).2 s

/-! ## NAME_NOW and MATCH_READ (R167) -/

/-- R167: NAME_NOW: a pass is made due; the reply tells the generation in force and whether the pass ran. -/
def takeNameNow (tag : Byte) (s : State) : State :=
  answer tag 0x0C .ok (u16 (passDue s).naming.record.generation ++ [if s.anyBringingUp then 0x01 else 0x00]) (passDue s)

/-- R167: MATCH_READ. -/
def takeMatchRead (tag : Byte) (s : State) : State := answer tag 0x0D .ok s.naming.bytes s

/-! ## RESTART and hardware reset (R21, R22, R179, R180) -/

/-- R22: a lane controller at a RESTART: one in OFF is kept, any other takes the values of R21 but its reading. -/
def LaneCtl.restarted (c : LaneCtl) : LaneCtl :=
  match c.state with
  | .off => c
  | .empty | .settling | .signature | .awaitGrant | .powering | .walking | .ready | .parting | .fault =>
    { LaneCtl.reset with reading := c.reading }

/-- R179 step 1: a lane's column at a RESTART (R22, R53, R90, R115, R142). -/
def Column.restarted (c : Column) : Column := { Column.reset with ctl := c.ctl.restarted }

/-- R179 step 2: the queue, the owed replies, the buffer and the notice set are emptied; window and link flags stay. -/
def Port.emptied (p : Port) (cause : ResetCause) : Port :=
  { p with buffer := none, replies := [], owed := PerLane.fill none, notices := [], resetCause := cause }

/-- R21, R22: a lane in EMPTY whose reading is MATED enters SETTLING. -/
def settleIfMated (s : State) (n : Lane) : State :=
  if s.laneState n = .empty ∧ (s.col n).ctl.reading = .mated then enterSettling n .mated s else s

/-- R179 step 5, R180: RESTARTED is raised first, and the LANE_STATE notices of lanes entering SETTLING follow it in
lane order. -/
def comeUp (cause : ResetCause) (s : State) : State := Lane.all.foldl settleIfMated (raise (.restarted cause) s)

/-- R179 steps 1 to 4. -/
def State.restarted (s : State) : State :=
  { s with
    columns := s.columns.map Column.restarted
    converter := s.converter.restart
    table := DeviceTable.reset
    naming := Naming.reset
    port := s.port.emptied .restartRequest }

/-- R179: RESTART. -/
def takeRestart (tag : Byte) (s : State) : State :=
  answer tag 0x0E .ok [] (comeUp .restartRequest s.restarted)

/-- R21: a lane's column after a hardware reset, its comparator reading the contact's level. -/
def Column.afterReset (contact : Contact) : Column :=
  { Column.reset with ctl := { LaneCtl.reset with reading := contact.reads } }

/-- R180: every block takes its reset values, the comparators reading these contacts; the port as given, and the queue of
waiting commands kept. -/
def State.cold (s : State) (contacts : PerLane Contact) (p : Port) : State :=
  { settings := Settings.defaults
    columns := contacts.map Column.afterReset
    converter := Converter.reset
    table := DeviceTable.reset
    catalogue := Catalogue.reset
    naming := Naming.reset
    port := p
    pending := s.pending }

/-- R180: the port under a hardware reset: nothing held, no notice waiting. -/
def Port.blank (window : Window) (cause : ResetCause) : Port :=
  { Port.reset with notices := [], window, resetCause := cause }

/-- R180: a window open when the reset's end comes is ignored whole. -/
def windowAfterReset (csnLow : Bool) : Window := if csnLow then .ignored else .closed

/-- R180: a window open when RESETN falls is ignored. -/
def Window.heldBy : Window → Window
  | .closed => .closed
  | .ignored | .clocking _ _ => .ignored

/-- R180: power-on, whole: the part comes up with every block reset. -/
def powerOn (contacts : PerLane Contact) (csnLow : Bool) (s : State) : State :=
  comeUp .powerOn (s.cold contacts (Port.blank (windowAfterReset csnLow) .powerOn))

/-- R174, R180: RESETN falls, and holds every block at its reset values; the last reset cause is written at the reset's end
(log 7). -/
def holdReset (s : State) : State :=
  if s.port.resetLow then s
  else
    s.cold (PerLane.fill .bare)
      { Port.blank s.port.window.heldBy s.port.resetCause with resetLow := true }

/-- R180: RESETN is released: the reset's end. A rise of a pin that is not low is none. -/
def releaseReset (contacts : PerLane Contact) (s : State) : State :=
  if s.port.resetLow then comeUp .resetPin (s.cold contacts (Port.blank s.port.window .resetPin)) else s

end Sys2Proof.Machine
end

