-- ==== Sys2Proof/Machine/PortOps.lean ====
section
/-!
DEFINITION. The host link port: what a window clocks, delivery, the decoding of host frames (R169 to R173).
-/

namespace Sys2Proof.Machine

/-! ## Chip-select fall (R170, R173) -/

/-- R173: what a snapshot leaves in a slot: counts 0, class, slope code and power-good code absent, mark clear. -/
def Notice.settled : Notice → Notice
  | .laneState n c => .laneState n { c with count := 0, signature := none, powerGood := none }
  | .laneFault n c => .laneFault n c
  | .roster n _ => .roster n { added := 0, removed := 0, changed := 0 }
  | .naming c => .naming c
  | .restarted cause => .restarted cause

/-- R170: the buffer at a fall: the frame it holds, else the oldest reply, else a snapshot of the oldest notice. -/
def Port.fillBuffer (p : Port) : Port :=
  match p.buffer, p.replies, p.notices with
  | some _, _, _ => p
  | none, r :: _, _ => { p with buffer := some (.reply r) }
  | none, [], y :: ys =>
    { p with buffer := some (.notice y.notice), notices := { notice := y.notice.settled, updated := false } :: ys }
  | none, [], [] => p

/-- R169, R170: the bytes the part clocks in a window. -/
def Port.frame (p : Port) : List Byte :=
  match p.buffer with
  | some x => partFrame x p.flags
  | none => emptyFrame p.flags

/-- R170: a chip-select fall, with CSN high before it; one while RESETN is low opens an ignored window (R180). -/
def Port.fall (p : Port) : Port :=
  match p.window with
  | .closed =>
    if p.resetLow then { p with window := .ignored }
    else { p.fillBuffer with window := .clocking p.fillBuffer.frame p.flags }
  | .ignored | .clocking _ _ => p

/-! ## Delivery (R170, R172, R173) -/

/-- R173: a delivered snapshot settles its slot: absent if not raised again since. -/
def settleSlot (k : NoticeKey) (slots : List NoticeSlot) : List NoticeSlot :=
  slots.filter fun y => y.notice.key != k || y.updated

/-- R170, R173: the buffered frame is delivered. -/
def Port.deliver (p : Port) : Port :=
  match p.buffer with
  | none => p
  | some (.reply _) => { p with buffer := none, replies := p.replies.tail }
  | some (.notice x) => { p with buffer := none, notices := settleSlot x.key p.notices }

/-- R172: the flags a delivered frame carried set are cleared. -/
def LinkFlags.minus (f carried : LinkFlags) : LinkFlags :=
  { short := f.short && !carried.short, full := f.full && !carried.full }

/-- R169 step 1: at a rise, a frame whose every byte was clocked is delivered. -/
def Port.endWindow (p : Port) (out : List Byte) (carried : LinkFlags) (clocked : Nat) : Port :=
  if out.length ≤ clocked then { p.deliver with window := .closed, flags := p.flags.minus carried }
  else { p with window := .closed }

/-! ## Host frames (R171, R175) -/

/-- The pairs of a CONFIGURE payload, if its length is a multiple of 3. -/
def pairsOf : List Byte → Option (List SettingPair)
  | [] => some []
  | id :: hi :: lo :: rest => (pairsOf rest).map fun ps => { id, value := hi ++ lo } :: ps
  | _ => none

/-- The slot fields of a CAT_SLOT payload after its tool number, if they are 21 bytes (11.6). -/
def slotOf (bytes : List Byte) : Option SlotBytes :=
  match bytes.drop 8 with
  | [lane, cls, parent, leg, required, pinFlag, a, b, c, d, e, f, ordinal] =>
    some
      { name := bytes.take 8, lane, cls, parent, leg, required, pinFlag, pin := identityOf [a, b, c, d, e, f], ordinal }
  | _ => none

/-- R171: the FULL test: whether replies queued and owed together number 8. -/
def Port.isFull (p : Port) : Bool := Config.replyLimit ≤ p.replies.length + p.owedCount

/-- R171, R172: a discarded frame sets FULL. -/
def setFull (s : State) : State := s.modPort fun p => { p with flags := { p.flags with full := true } }

/-- R171, R172: a discarded frame sets SHORT. -/
def setShort (s : State) : State := s.modPort fun p => { p with flags := { p.flags with short := true } }

/-- R171: a frame that is long enough is accepted and handled, or discarded with FULL; none arrives while RESETN is low
(R180). -/
def accept (handle : State → State) (s : State) : State :=
  if s.port.resetLow then s else if s.port.isFull then setFull s else handle s

/-- R175: the LANE_CONTROL request: lane field, then action. -/
def takeLaneControl (tag lane action : Byte) (s : State) : State :=
  match action.toNat with
  | 1 => takeGrant tag lane s
  | 2 => takeRewalk tag lane s
  | 3 => takeClear tag lane s
  | _ => answer tag 0x03 .range [] s

/-- R175: the requests of no payload. -/
def takeBare (kind tag : Byte) (s : State) : State :=
  match kind.toNat with
  | 0x01 => takeStatus tag s
  | 0x0C => takeNameNow tag s
  | 0x0D => takeMatchRead tag s
  | 0x0E => takeRestart tag s
  | _ => answerMalformed tag kind s

/-- R175: the requests of one payload byte. -/
def takeOne (kind tag a : Byte) (s : State) : State :=
  match kind.toNat with
  | 0x04 => takeLaneRead tag a s
  | 0x0A => takeCatDrop tag a s
  | _ => answerMalformed tag kind s

/-- R175: the requests of two payload bytes. -/
def takeTwo (kind tag a b : Byte) (s : State) : State :=
  match kind.toNat with
  | 0x03 => takeLaneControl tag a b s
  | 0x05 => takeRoster tag a b s
  | 0x07 => takeDeviceClear tag a b s
  | 0x0B => takeCatRead tag a b s
  | _ => answerMalformed tag kind s

/-- R175: the requests of a longer payload: CONFIGURE, DEVICE_READ, CAT_TOOL, CAT_SLOT. -/
def takeLong (kind tag : Byte) (payload : List Byte) (s : State) : State :=
  match kind.toNat, payload with
  | 0x02, _ =>
    match pairsOf payload with
    | some pairs => takeConfigure tag pairs s
    | none => answerMalformed tag kind s
  | 0x06, [lane, handle, offset, count] => takeDeviceRead tag lane handle offset count s
  | 0x08, [number, a, b, c, d, e, f, w, x, y, z] =>
    takeCatTool tag number (identityOf [a, b, c, d, e, f]) ⟨w, x, y, z⟩ s
  | 0x09, number :: rest =>
    match slotOf rest with
    | some slot => takeCatSlot tag number slot s
    | none => answerMalformed tag kind s
  | _, _ => answerMalformed tag kind s

/-- R171, R175: an accepted request is judged by its kind and its payload's length. -/
def takeRequest (kind tag : Byte) (payload : List Byte) (s : State) : State :=
  match payload with
  | [] => takeBare kind tag s
  | [a] => takeOne kind tag a s
  | [a, b] => takeTwo kind tag a b s
  | _ => takeLong kind tag payload s

/-- R171: the bytes of a window are decoded, the conditions judged in order. -/
def decodeFrame (bytes : List Byte) (s : State) : State :=
  match bytes with
  | [] => s
  | kind :: rest =>
    if kind = 0 then s
    else
      match rest with
      | tag :: length :: payload =>
        if payload.length < length.toNat then setShort s
        else accept (takeRequest kind tag (payload.take length.toNat)) s
      | _ => setShort s

/-- R169: a chip-select rise after a window in which SDI carried these whole bytes: delivery, then decoding. A rise with CSN
high already is none, and a window that RESETN's low touches is ignored whole (R180). -/
def rise (bytes : List Byte) (s : State) : State :=
  match s.port.window with
  | .closed => s
  | .ignored => s.modPort fun p => { p with window := .closed }
  | .clocking out carried => decodeFrame bytes (s.modPort fun p => p.endWindow out carried bytes.length)

end Sys2Proof.Machine
end

