-- ==== Sys2Proof/Machine/PortEvents.lean ====
section
/-!
DEFINITION. The commands of the host link port's pins (R169 to R172, R180).
-/

namespace Sys2Proof.Machine

/-- CHIP_SELECT_FALL (R170); a fall with CSN low already is none (log 3). -/
def execChipSelectFall (s : State) : Answer := .next (s.modPort Port.fall)

/-- CHIP_SELECT_RISE (R169): the bits of SDI make bytes, most significant first; a part byte at their end is none
(log 5). -/
def execChipSelectRise (sdi : List Bool) (s : State) : Answer := .next (rise (wholeBytes sdi) s)

/-- HARDWARE_RESET (R180, log 7). At the fall of RESETN no contact is read; at its release the window is the one that the
port holds. -/
def execHardwareReset (moment : ResetMoment) (contacts : PerLane Contact) (csnLow : Bool) (s : State) : Answer :=
  .next
    (match moment with
    | .powerOn => powerOn contacts csnLow s
    | .held => holdReset s
    | .released => releaseReset contacts s)

end Sys2Proof.Machine
end

