-- ==== Sys2Proof/Machine/Requests.lean ====
section
/-!
DEFINITION. The commands of the requests: each is a host frame of that kind decoded by R171, accepted or discarded with
FULL, and handled by its owning block (log 4).
-/

namespace Sys2Proof.Machine

/-- STATUS (R175). -/
def execStatus (tag : Byte) (s : State) : Answer := .next (accept (takeStatus tag) s)

/-- CONFIGURE (R176). -/
def execConfigure (tag : Byte) (pairs : List SettingPair) (s : State) : Answer :=
  .next (accept (takeConfigure tag pairs) s)

/-- GRANT (R5, R7). -/
def execGrant (tag lane : Byte) (s : State) : Answer := .next (accept (takeGrant tag lane) s)

/-- REWALK (R7, R11). -/
def execRewalk (tag lane : Byte) (s : State) : Answer := .next (accept (takeRewalk tag lane) s)

/-- CLEAR (R7, R17). -/
def execClear (tag lane : Byte) (s : State) : Answer := .next (accept (takeClear tag lane) s)

/-- LANE_READ (R175). -/
def execLaneRead (tag lane : Byte) (s : State) : Answer := .next (accept (takeLaneRead tag lane) s)

/-- ROSTER (R130). -/
def execRoster (tag startLane startHandle : Byte) (s : State) : Answer :=
  .next (accept (takeRoster tag startLane startHandle) s)

/-- DEVICE_READ (R177). -/
def execDeviceRead (tag lane handle offset count : Byte) (s : State) : Answer :=
  .next (accept (takeDeviceRead tag lane handle offset count) s)

/-- DEVICE_CLEAR (R128). -/
def execDeviceClear (tag lane handle : Byte) (s : State) : Answer := .next (accept (takeDeviceClear tag lane handle) s)

/-- CAT_TOOL (R145). -/
def execCatTool (tag number : Byte) (key : Identity) (expectations : PerLane Byte) (s : State) : Answer :=
  .next (accept (takeCatTool tag number key expectations) s)

/-- CAT_SLOT (R146). -/
def execCatSlot (tag number : Byte) (slot : SlotBytes) (s : State) : Answer :=
  .next (accept (takeCatSlot tag number slot) s)

/-- CAT_DROP (R148). -/
def execCatDrop (tag number : Byte) (s : State) : Answer := .next (accept (takeCatDrop tag number) s)

/-- CAT_READ (R150). -/
def execCatRead (tag number start : Byte) (s : State) : Answer := .next (accept (takeCatRead tag number start) s)

/-- NAME_NOW (R167). -/
def execNameNow (tag : Byte) (s : State) : Answer := .next (accept (takeNameNow tag) s)

/-- MATCH_READ (R167). -/
def execMatchRead (tag : Byte) (s : State) : Answer := .next (accept (takeMatchRead tag) s)

/-- RESTART (R179). -/
def execRestart (tag : Byte) (s : State) : Answer := .next (accept (takeRestart tag) s)

end Sys2Proof.Machine
end

