-- ==== Sys2Proof/Machine/SupplyEvents.lean ====
section
/-!
DEFINITION. The commands of the supply supervisors' events and of the converter's completions (R36, R37, R44 to R50).
-/

namespace Sys2Proof.Machine

/-- TRIP_EVENT (R45): a current above the trip threshold at an armed comparator. -/
def execTripEvent (n : Lane) (milliamps : Nat) (s : State) : Answer := .next (tripCheck n milliamps s)

/-- R44: the inrush window's end: CHECK, the comparator armed, a sample placed and the sample period started. -/
def inrushExpired (n : Lane) (s : State) : State :=
  (s.modSupervisor n Supervisor.endInrush).modConverter fun c => c.place .sample n

/-- INRUSH_WINDOW_EXPIRY (R44, R45): a current already above the threshold trips at the arming. -/
def execInrushWindowExpiry (n : Lane) (milliamps : Nat) (s : State) : Answer :=
  .next (if (s.col n).supervisor.inrush.isRunning then tripCheck n milliamps (inrushExpired n s) else s)

/-- SAMPLE_DUE_INSTANT (R44): a sample is placed and the timer starts again. -/
def execSampleDueInstant (n : Lane) (s : State) : Answer :=
  .next
    (if (s.col n).supervisor.samplePeriod.isRunning then
      (s.modSupervisor n fun v => { v with samplePeriod := .running Config.samplePeriod }).modConverter fun c =>
        c.place .sample n
    else s)

/-- R2, R37: what the lane controller makes of a completed point job: the comparator level is stored and judged first,
and a result for the series in which the job was placed is written. -/
def pointHandled (n : Lane) (live : Bool) (code : Code) (contact : Contact) (s : State) : State :=
  let sampled := setReading n contact.reads s
  match contact.reads with
  | .opened => openAction n sampled
  | .mated => if live && s.laneState n == .signature then pointResult n code sampled else sampled

/-- POINT_JOB_COMPLETION (R36, R37): the result, the placements it causes, then the arbiter's next choice. -/
def execPointJobCompletion (code : Code) (contact : Contact) (s : State) : Answer :=
  .next
    (match s.converter.job with
    | some { lane := n, kind := .point _, live } =>
      (pointHandled n live code contact s).modConverter Converter.complete
    | some { lane := _, kind := .sample, live := _ } => s
    | none => s)

/-- SAMPLE_JOB_COMPLETION (R36, R37, R46): the codes are handed to the supervisor, or discarded if the switch has
opened since the job was placed. -/
def execSampleJobCompletion (current voltage : Code) (s : State) : Answer :=
  .next
    (match s.converter.job with
    | some { lane := n, kind := .sample, live } =>
      (if live then sampleResult n current voltage s else s).modConverter Converter.complete
    | some { lane := _, kind := .point _, live := _ } => s
    | none => s)

end Sys2Proof.Machine
end

