-- ==== Sys2Proof/Machine/Dispatch.lean ====
section
/-!
DEFINITION. One arm for each command.
-/

namespace Sys2Proof.Machine

def exec (i : Instr) (s : State) : Host.Outcome State Fault Refusal :=
  match i with
  | .mateEvent n contact => Sys2Proof.Machine.execMateEvent n contact s
  | .openEvent n contact => Sys2Proof.Machine.execOpenEvent n contact s
  | .tripEvent n milliamps => Sys2Proof.Machine.execTripEvent n milliamps s
  | .settleTimerExpiry n => Sys2Proof.Machine.execSettleTimerExpiry n s
  | .grantWindowExpiry n => Sys2Proof.Machine.execGrantWindowExpiry n s
  | .inrushWindowExpiry n milliamps => Sys2Proof.Machine.execInrushWindowExpiry n milliamps s
  | .sampleDueInstant n => Sys2Proof.Machine.execSampleDueInstant n s
  | .bootWaitExpiry n => Sys2Proof.Machine.execBootWaitExpiry n s
  | .remateHoldExpiry n => Sys2Proof.Machine.execRemateHoldExpiry n s
  | .pointJobCompletion code contact => Sys2Proof.Machine.execPointJobCompletion code contact s
  | .sampleJobCompletion current voltage => Sys2Proof.Machine.execSampleJobCompletion current voltage s
  | .idleCheckPassed n => Sys2Proof.Machine.execIdleCheckPassed n s
  | .lineStuck n => Sys2Proof.Machine.execLineStuck n s
  | .stall n slot => Sys2Proof.Machine.execStall n slot s
  | .collision n slot => Sys2Proof.Machine.execCollision n slot s
  | .attemptEnd n acks bytes => Sys2Proof.Machine.execAttemptEnd n acks bytes s
  | .closingStop n => Sys2Proof.Machine.execClosingStop n s
  | .closingGivenUp n => Sys2Proof.Machine.execClosingGivenUp n s
  | .rollCallPeriodExpiry n => Sys2Proof.Machine.execRollCallPeriodExpiry n s
  | .chipSelectFall => Sys2Proof.Machine.execChipSelectFall s
  | .chipSelectRise sdi => Sys2Proof.Machine.execChipSelectRise sdi s
  | .hardwareReset moment contacts csnLow => Sys2Proof.Machine.execHardwareReset moment contacts csnLow s
  | .status tag => Sys2Proof.Machine.execStatus tag s
  | .configure tag pairs => Sys2Proof.Machine.execConfigure tag pairs s
  | .grant tag lane => Sys2Proof.Machine.execGrant tag lane s
  | .rewalk tag lane => Sys2Proof.Machine.execRewalk tag lane s
  | .clear tag lane => Sys2Proof.Machine.execClear tag lane s
  | .laneRead tag lane => Sys2Proof.Machine.execLaneRead tag lane s
  | .roster tag lane handle => Sys2Proof.Machine.execRoster tag lane handle s
  | .deviceRead tag lane handle offset count => Sys2Proof.Machine.execDeviceRead tag lane handle offset count s
  | .deviceClear tag lane handle => Sys2Proof.Machine.execDeviceClear tag lane handle s
  | .catTool tag number key expectations => Sys2Proof.Machine.execCatTool tag number key expectations s
  | .catSlot tag number slot => Sys2Proof.Machine.execCatSlot tag number slot s
  | .catDrop tag number => Sys2Proof.Machine.execCatDrop tag number s
  | .catRead tag number start => Sys2Proof.Machine.execCatRead tag number start s
  | .nameNow tag => Sys2Proof.Machine.execNameNow tag s
  | .matchRead tag => Sys2Proof.Machine.execMatchRead tag s
  | .restart tag => Sys2Proof.Machine.execRestart tag s

end Sys2Proof.Machine
end

