-- ==== Sys2Proof/Machine/ToolDevices.lean ====
section
/-!
DEFINITION. What the plug line requires of the tool's devices (R54, R58, R60, R64 to R66, R69 to R74): which of them
acknowledge a header, what a population of devices answers in a call, how each stands and what it may drive then, and what
starts and stops do to them, those of a broken or aborted attempt and of a closing stop among them (R63). The devices are
outside the part: they are no field of State, and their answers reach the part as the operands of ATTEMPT_END (log 18).
-/

namespace Sys2Proof.Machine

/-- A device of a tool (R65, R66). `under` is its place in the tree: none at the lane root, else the number in the
population of the junction above it and the leg; a junction stands before the devices beneath it. -/
structure Device where
  identity : Identity
  cls : Byte
  status : Byte
  memory : List Byte
  handle : Option Nat
  legA : Bool
  legB : Bool
  under : Option (Nat × Leg)
deriving DecidableEq, Repr

/-- R65: a device powers up unbound, and a junction with both legs closed. -/
def Device.powerUp (d : Device) : Device := { d with handle := none, legA := false, legB := false }

/-- R73: whether a junction's leg is open. -/
def Device.legOpen (d : Device) : Leg → Bool
  | .a => d.legA
  | .b => d.legB

/-- R66: a device's identity record, its check byte included. -/
def Device.record (d : Device) : List Byte :=
  let body := identityBytes d.identity ++ [d.cls]
  body ++ [crc8 body]

/-- R73: which devices of a population see the line, the devices before them given. -/
def seeing (above : List Bool) (ds : List Device) (d : Device) : Bool :=
  match d.under with
  | none => true
  | some (i, leg) => above.getD i false && ((ds[i]?).map fun j => j.legOpen leg).getD false

/-- R73: for each device of a population whether it sees the line: every leg above it is open. -/
def visible (ds : List Device) : List Bool := ds.foldl (fun above d => above ++ [seeing above ds d]) []

/-- R64: whether a device that sees the line acknowledges a header. -/
def Device.acksHeader (d : Device) (r : LineRequest) : Bool :=
  match r.call with
  | .enrol | .bind => r.handle == 0 && d.handle.isNone
  | .probe | .peek => 1 ≤ r.handle && r.handle ≤ Config.handleCount && d.handle == some r.handle
  | .leg =>
    1 ≤ r.handle && r.handle ≤ Config.handleCount && d.handle == some r.handle && d.cls == Config.junctionClass
  | .release =>
    if r.handle = Config.allHandle then d.handle.isSome
    else 1 ≤ r.handle && r.handle ≤ Config.handleCount && d.handle == some r.handle

/-- The devices of a population that acknowledge a header. -/
def addressed (ds : List Device) (r : LineRequest) : List Device :=
  (ds.zip (visible ds)).filterMap fun p => if p.2 && p.1.acksHeader r then some p.1 else none

/-- R70, R72, R73: whether a device that acknowledged the header acknowledges byte i of those the part sends after it,
having acknowledged those before. BIND names an identity and no class: of two devices with one identity and different
classes both acknowledge (R65, R70), where R114 has the second stay unbound (log 26). -/
def Device.acksByte (d : Device) (r : LineRequest) (i : Nat) (b : Byte) : Bool :=
  match r.call with
  | .bind =>
    if i < 6 then (identityBytes d.identity).getD i 0 == b else 1 ≤ b.toNat && b.toNat ≤ Config.handleCount
  | .peek =>
    if i = 0 then b.toNat < d.memory.length else 1 ≤ b.toNat && b.toNat ≤ Config.chunkLimit
  | .leg => b.toNat ≤ 3
  | .enrol | .probe | .release => false

/-- R54, R60: what the part reads in an acknowledge slot: an ACK if any of the devices drives it low. -/
def ackRead (ds : List Device) : Bool := !wireHigh (ds.map fun _ => Drive.low)

/-- R60, R70: the acknowledges read for the bytes after the header, and the devices that gave the last of them. -/
def ackBytes (r : LineRequest) : Nat → List Byte → List Device → List Bool × List Device
  | _, [], ds => ([], ds)
  | i, b :: bs, ds =>
    let still := ds.filter fun d => d.acksByte r i b
    let rest := ackBytes r (i + 1) bs still
    (ackRead still :: rest.1, rest.2)

/-! ## The bytes devices send -/

/-- R69: bit by bit, the line reads 0 if any device still in arbitration drives 0; a device that released for a 1 and
reads a 0 has lost and drives nothing more. -/
def arbitrate : Nat → List (List Bool) → List Bool
  | 0, _ => []
  | k + 1, records =>
    let line := wireHigh (records.map fun r => lowIf !(r.headD true))
    line :: arbitrate k ((records.filter fun r => r.headD true == line).map List.tail)

/-- R69: the record that the part reads from the devices that acknowledged an ENROL header. -/
def arbitratedRecord (ds : List Device) : List Byte :=
  bytesOfBits 8 (arbitrate 64 (ds.map fun d => bitsOf d.record))

/-- R71, R72: the wired-AND of what several devices send together. -/
def wiredAnd (answers : List (List Byte)) (i : Nat) : Byte :=
  answers.foldl (fun a x => a &&& x.getD i 0xFF) 0xFF

/-- R72: a data byte of a device's memory; one at or beyond its end is FFh. -/
def Device.dataByte (d : Device) (i : Nat) : Byte := d.memory.getD i 0xFF

/-- R71, R72: what one device sends in PROBE or PEEK, its check byte included. -/
def Device.answer (d : Device) (r : LineRequest) : List Byte :=
  match r.call with
  | .probe => [d.status, crc8 [d.status]]
  | .peek =>
    let data := (List.range (r.out.getD 1 0).toNat).map fun i => d.dataByte ((r.out.getD 0 0).toNat + i)
    data ++ [crc8 data]
  | .enrol | .bind | .leg | .release => []

/-- R69, R71, R72: the bytes that one device sends in a call, were it alone on the line. -/
def Device.sends (d : Device) (r : LineRequest) : List Byte :=
  match r.call with
  | .enrol => d.record
  | .probe | .peek => d.answer r
  | .bind | .leg | .release => []

/-- What the line gives the part in an undisturbed attempt: the acknowledges and the bytes (R68 to R74). -/
def lineAnswer (ds : List Device) (r : LineRequest) : List Bool × List Byte :=
  let heard := addressed ds r
  let acked := ackBytes r 0 r.out heard
  let sent := match r.call with
    | .enrol => arbitratedRecord heard
    | .probe | .peek => (List.range r.expected).map (wiredAnd (acked.2.map fun d => d.answer r))
    | .bind | .leg | .release => []
  (ackRead heard :: acked.1, sent)

/-- The bits that the devices put on the line in an undisturbed attempt, in their order. -/
def lineBits (ds : List Device) (r : LineRequest) : List Bool := bitsOf (lineAnswer ds r).2

/-! ## How a device stands, and what it may drive (R54, R57, R58, R60, R64, R65, R69) -/

/-- R65: how a device stands towards the line: between a stop and the next start; reading a header, its acknowledge slot
included; taking part; its part complete; or out of the transaction, waiting for the next start. -/
inductive Standing where
  | idle | header | taking | complete | out
deriving DecidableEq, Repr

/-- R58, R65: whether a device may stretch a slot by holding LCK: in the bits of the header and its acknowledge as in every
later slot of a transaction it takes part in, the stop slot among them; not between a stop and a start, and not once it is out
of the transaction. -/
def Standing.mayStretch : Standing → Bool
  | .header | .taking | .complete => true
  | .idle | .out => false

/-- R57, R64, R65: whether a device may own a bit of LDA: the acknowledge of a header, or a bit of a transaction it takes part
in. -/
def Standing.mayAnswer : Standing → Bool
  | .header | .taking => true
  | .idle | .complete | .out => false

/-- R70, R72, R73: whether a device acknowledges every one of these bytes that the part sends after the header. -/
def Device.acksAll (d : Device) (r : LineRequest) : Nat → List Byte → Bool
  | _, [] => true
  | i, b :: bs => d.acksByte r i b && d.acksAll r (i + 1) bs

/-- The bytes of a call, the header included (R76). -/
def LineRequest.bytes (r : LineRequest) : Nat := 1 + r.out.length + r.expected

/-- R69: whether a device has read its own value at every record bit that has been on the line; one that has not, has lost. In
every other call there is no arbitration to lose. -/
def Device.arbitrates (d : Device) (r : LineRequest) (heard : List Bool) : Bool :=
  r.call != .enrol || (bitsOf d.record).take heard.length == heard

/-- R64, R65, R69: how a device that saw the start stands when k bytes have been clocked with their acknowledges, the devices
having put these bits on the line. -/
def Device.standing (d : Device) (r : LineRequest) (k : Nat) (heard : List Bool) : Standing :=
  if k = 0 then .header
  else if d.acksHeader r && d.acksAll r 0 (r.out.take (k - 1)) && d.arbitrates r heard then
    (if k < r.bytes then .taking else .complete)
  else .out

/-- R57, R60, R64, R69 to R73: whether a bit of LDA is one that a device taking part sets to LOW: an acknowledge that it gives,
that of the header among them, or a 0 that it sends, the devices having put these bits on the line before it. -/
def Device.setsLow (d : Device) (r : LineRequest) (heard : List Bool) : SlotUse → Bool
  | .deviceAck position => d.acksHeader r && d.acksAll r 0 (r.out.take (position - 1))
  | .deviceBit => !(bitsOf (d.sends r)).getD heard.length true
  | .start | .partBit _ | .partAck _ | .stop => false

/-- R54, R57, R64, R65, R69: what a device that sees the line drives on LDA in a slot, k bytes having been clocked and the
devices having put these bits on the line. -/
def Device.lda (d : Device) (r : LineRequest) (k : Nat) (heard : List Bool) (use : SlotUse) : Drive :=
  lowIf ((d.standing r k heard).mayAnswer && d.setsLow r heard use)

/-! ## Starts and stops (R63, R65, R70, R73, R74) -/

/-- R70, R73, R74: what a call does to a device whose part is complete. BIND takes a handle to every such device: one of two
with the same identity but another class too (R70; log 26). -/
def Device.effect (d : Device) (r : LineRequest) : Device :=
  match r.call with
  | .bind => { d with handle := some (r.out.getLastD 0).toNat }
  | .leg =>
    { d with legA := (r.out.headD 0).toNat % 2 = 1, legB := (r.out.headD 0).toNat / 2 = 1 }
  | .release => d.powerUp
  | .enrol | .probe | .peek => d

/-- A device and how it stands. -/
structure Situated where
  device : Device
  standing : Standing
deriving DecidableEq, Repr

/-- R65: at a start a device abandons any transaction, with none of its effects, and reads a header. -/
def Situated.start (x : Situated) : Situated := { x with standing := .header }

/-- R65: at a stop a device whose part is complete carries out the call's effect; every other abandons it. -/
def Situated.stop (r : LineRequest) (x : Situated) : Situated :=
  { device := if x.standing = .complete then x.device.effect r else x.device, standing := .idle }

/-- The devices of a population, each standing as it does when k bytes of a call have been clocked and these bits of the devices
have been on the line; one that does not see the line sees it idle (R73). -/
def situated (ds : List Device) (r : LineRequest) (k : Nat) (heard : List Bool) : List Situated :=
  (ds.zip (visible ds)).map fun p => { device := p.1, standing := if p.2 then p.1.standing r k heard else .idle }

/-- R65: what the stop of an undisturbed attempt leaves of a population: each device that sees the line and whose part is
complete takes the call's effect. -/
def afterStop (ds : List Device) (r : LineRequest) : List Device :=
  (situated ds r r.bytes (lineBits ds r)).map fun x => (x.stop r).device

/-! ## Starts and stops on the wires (R54, R56, R57, R59, R63) -/

/-- R54: what the devices of a lane together drive: a wire is low when any of them holds it. -/
structure DeviceDrives where
  lck : Drive
  lda : Drive
deriving DecidableEq, Repr

/-- R54: the levels of the two wires, true for HIGH. -/
structure Levels where
  lck : Bool
  lda : Bool
deriving DecidableEq, Repr

/-- R54: the levels of the wires in a stage of the part's, under what the devices drive. -/
def WireStage.levels (x : WireStage) (h : DeviceDrives) : Levels :=
  { lck := wireHigh [x.lck, h.lck], lda := wireHigh [x.lda, h.lda] }

/-- R57: the conditions that a change of LDA under a high LCK makes on a line. -/
inductive Condition where
  | start | stop
deriving DecidableEq, Repr

/-- R56, R57, R59: the condition that a change of levels makes: a fall of LDA with LCK high is a start, a rise a stop. -/
def Levels.condition (a b : Levels) : Option Condition :=
  if a.lck && b.lck then
    match a.lda, b.lda with
    | true, false => some .start
    | false, true => some .stop
    | true, true => none
    | false, false => none
  else none

/-- R65: what a device that sees the line makes of a condition. -/
def Situated.sees (r : LineRequest) (c : Condition) (x : Situated) : Situated :=
  match c with
  | .start => x.start
  | .stop => x.stop r

/-- R65, R73: a condition on the line, seen by the devices that no closed leg cuts off. -/
def seeCondition (r : LineRequest) (c : Condition) (xs : List Situated) : List Situated :=
  (xs.zip (visible (xs.map Situated.device))).map fun p => if p.2 then p.1.sees r c else p.1

/-- The devices of a population after the wires have gone through these levels. -/
def seeWires (r : LineRequest) : List Levels → List Situated → List Situated
  | a :: b :: ls, xs =>
    seeWires r (b :: ls)
      (match a.condition b with
      | some c => seeCondition r c xs
      | none => xs)
  | [_], xs => xs
  | [], xs => xs

/-- The bytes clocked with their acknowledges when an attempt stands in a slot, the wires having gone through these levels in
it (R57, R76): slot 1 is the start and a byte takes 9; an acknowledge is sampled when LCK is HIGH in its slot. -/
def bytesClocked (slot : Nat) (levels : List Levels) : Nat :=
  (slot - 2) / 9 + (if 2 ≤ slot ∧ (slot - 2) % 9 = 8 ∧ levels.any Levels.lck then 1 else 0)

/-- The bits of the devices that have been on the line when an attempt stands in a slot, the wires having gone through these
levels in it: a bit is sampled when LCK is HIGH in its slot (R57). -/
def bitsClocked (r : LineRequest) (slot : Nat) (levels : List Levels) : Nat :=
  ((r.body.take (if levels.any Levels.lck then slot else slot - 1)).filter fun x => x.use == .deviceBit).length

/-- R63, R65: the devices when an attempt has been broken off in a slot. The trail is what the part and the devices drove: the
stages of that slot as far as they went, then those of the closing; a stage stands in it again for each change of what the
devices drive under it. A stop that was made in the slot, one that the part's release makes, and one that comes when a device
lets LDA go are stops like any other; while LCK reads LOW, whoever holds it, none is made. -/
def afterBreak (ds : List Device) (r : LineRequest) (slot : Nat) (trail : List (WireStage × DeviceDrives)) :
    List Situated :=
  let levels := trail.map fun p => p.1.levels p.2
  seeWires r levels
    (situated ds r (bytesClocked slot levels) ((lineBits ds r).take (bitsClocked r slot levels)))

end Sys2Proof.Machine
end

