-- ==== Sys2Proof/Machine/HostFrames.lean ====
section
/-!
DEFINITION. The host frame that carries each request (R169, R175, section 11.6): kind, tag, length, payload.
-/

namespace Sys2Proof.Machine

/-- R169: a host frame's bytes. -/
def hostFrame (kind tag : Byte) (payload : List Byte) : List Byte := [kind, tag, u8 payload.length] ++ payload

/-- R175: a pair of a CONFIGURE payload: the setting id and the 16-bit value. -/
def pairBytes (p : SettingPair) : List Byte := [p.id, p.value.extractLsb' 8 8, p.value.extractLsb' 0 8]

/-- 11.6: the slot fields of a CAT_SLOT payload after its tool number. -/
def slotBytes (x : SlotBytes) : List Byte :=
  x.name ++ ([x.lane, x.cls, x.parent, x.leg, x.required, x.pinFlag] ++ (identityBytes x.pin ++ [x.ordinal]))

/-- R175: the request code, the tag and the payload of a request; none for an event. -/
def requestOf : Instr → Option (Byte × Byte × List Byte)
  | .status tag => some (0x01, tag, [])
  | .configure tag pairs => some (0x02, tag, pairs.flatMap pairBytes)
  | .grant tag lane => some (0x03, tag, [lane, 0x01])
  | .rewalk tag lane => some (0x03, tag, [lane, 0x02])
  | .clear tag lane => some (0x03, tag, [lane, 0x03])
  | .laneRead tag lane => some (0x04, tag, [lane])
  | .roster tag startLane startHandle => some (0x05, tag, [startLane, startHandle])
  | .deviceRead tag lane handle offset count => some (0x06, tag, [lane, handle, offset, count])
  | .deviceClear tag lane handle => some (0x07, tag, [lane, handle])
  | .catTool tag number key expectations =>
    some (0x08, tag, number :: (identityBytes key ++ expectations.toList))
  | .catSlot tag number slot => some (0x09, tag, number :: slotBytes slot)
  | .catDrop tag number => some (0x0A, tag, [number])
  | .catRead tag number start => some (0x0B, tag, [number, start])
  | .nameNow tag => some (0x0C, tag, [])
  | .matchRead tag => some (0x0D, tag, [])
  | .restart tag => some (0x0E, tag, [])
  | .mateEvent _ _ => none
  | .openEvent _ _ => none
  | .tripEvent _ _ => none
  | .settleTimerExpiry _ => none
  | .grantWindowExpiry _ => none
  | .inrushWindowExpiry _ _ => none
  | .sampleDueInstant _ => none
  | .bootWaitExpiry _ => none
  | .remateHoldExpiry _ => none
  | .pointJobCompletion _ _ => none
  | .sampleJobCompletion _ _ => none
  | .idleCheckPassed _ => none
  | .lineStuck _ => none
  | .stall _ _ => none
  | .collision _ _ => none
  | .attemptEnd _ _ _ => none
  | .closingStop _ => none
  | .closingGivenUp _ => none
  | .rollCallPeriodExpiry _ => none
  | .chipSelectFall => none
  | .chipSelectRise _ => none
  | .hardwareReset _ _ _ => none

/-- R169, R175: the host frame of a request. -/
def frameOf (c : Instr) : Option (List Byte) := (requestOf c).map fun r => hostFrame r.1 r.2.1 r.2.2

end Sys2Proof.Machine
end

