-- ==== Sys2Proof/Machine/Pins.lean ====
section
/-!
DEFINITION. What stands on the part's own pins in a state: SDO (R169), ATTN (R174), the gate of each lane's switch (R41),
the current into each sense contact (R2, R23). The drives of LCKn and LDAn are the engine's registers (R54).
-/

namespace Sys2Proof.Machine

/-- What SDO carries: nothing, or a driven bit (R169). -/
inductive Sdo where
  | highImpedance
  | driven (bit : Bool)
deriving DecidableEq, Repr

/-- R169: what SDO carries at the k-th rising edge of SCK in a window, counted from 0: the frame's bits, most significant
first, and after the frame's end those of bytes of 00h. High impedance while CSN is high and while RESETN is low (R180), and
in the rest of a window that RESETN's low has touched (log 7). -/
def Port.sdo (p : Port) (k : Nat) : Sdo :=
  if p.resetLow then .highImpedance
  else
    match p.window with
    | .closed | .ignored => .highImpedance
    | .clocking out _ => .driven ((bitsOf out).getD k false)

/-- R174: whether ATTN is driven low. -/
def Port.attnLow (p : Port) : Bool :=
  !p.resetLow && (!p.replies.isEmpty || !p.notices.isEmpty || p.buffer.isSome)

/-- R41: whether the gate of a lane's switch is driven on: while the switch is CLOSED. -/
def Supervisor.gateOn (v : Supervisor) : Bool := v.switch == .closed

/-- R2, R23: the current into a lane's sense contact, in µA. -/
def State.senseCurrent (s : State) (n : Lane) : Nat := s.converter.senseCurrent n

end Sys2Proof.Machine
end

