-- ==== Sys2Proof/Safety.lean ====
section
/-!
DEFINITION. What claims about the part are stated with: invariants that the rules give as always true, what a command
leaves alone, and where an occurrence finds its lane.
-/

namespace Sys2Proof.Machine

/-! ## The host link port (R170, R173) -/

/-- R170: the buffer holds the reply at the head of the queue, or a snapshot of the notice first in the order. -/
def bufferAtHead (p : Port) : Prop :=
  match p.buffer with
  | none => True
  | some (.reply r) => p.replies.head? = some r
  | some (.notice x) => (p.notices.head?).map (fun y => y.notice.key) = some x.key

/-- R170, R173: replies queued and owed never exceed 8; at most one notice for each source and kind; what the buffer
holds stands at its head. -/
structure PortInv (s : State) : Prop where
  bounded : s.port.replies.length + s.port.owedCount ≤ Config.replyLimit
  distinct : (s.port.notices.map fun y => y.notice.key).Nodup
  buffered : bufferAtHead s.port

/-! ## Supply (R35, R40, R41, R43, R44, R48, R49, R51) -/

/-- What a lane's supply keeps: an open switch leaves every reading, count, timer and the class at rest; a closed one
is of a powered lane, out of IDLE; each timer runs in its own phases; sample jobs are of lanes whose switch is closed;
the counts stay below their limits. -/
structure LaneSupplyInv (s : State) (n : Lane) : Prop where
  opened : (s.col n).supervisor.switch = .opened → (s.col n).supervisor = Supervisor.reset
  closed : (s.col n).supervisor.switch = .closed →
    (s.laneState n).powered = true ∧ (s.col n).supervisor.phase ≠ .idle
  inrush : (s.col n).supervisor.inrush.isRunning = true ↔ (s.col n).supervisor.phase = .inrush
  sampling : (s.col n).supervisor.samplePeriod.isRunning = true ↔
    (s.col n).supervisor.phase = .check ∨ (s.col n).supervisor.phase = .policing
  placed : s.converter.samplePending.get n = true → (s.col n).supervisor.switch = .closed
  sampled : s.converter.job = some { lane := n, kind := .sample, live := true } →
    (s.col n).supervisor.switch = .closed
  overload : (s.col n).supervisor.overload < Config.overloadLimit
  low : (s.col n).supervisor.lowCount < Config.lowSupplyLimit

/-- The supply of every lane keeps its rules. -/
def SupplyInv (s : State) : Prop := ∀ n, LaneSupplyInv s n

/-! ## The settings (R176) -/

/-- R176: every setting lies in its range, on a whole step. -/
structure SettingsInv (g : Settings) : Prop where
  mateSettle : 10 ≤ g.mateSettle ∧ g.mateSettle ≤ 250 ∧ g.mateSettle % 10 = 0
  remateHold : g.remateHold ≤ 5000 ∧ g.remateHold % 100 = 0
  bootWait : 5 ≤ g.bootWait ∧ g.bootWait ≤ 500 ∧ g.bootWait % 5 = 0
  stallLimit : 1 ≤ g.stallLimit ∧ g.stallLimit ≤ 50
  retryLimit : g.retryLimit ≤ 7
  rollCallPeriod : 50 ≤ g.rollCallPeriod ∧ g.rollCallPeriod ≤ 2000 ∧ g.rollCallPeriod % 10 = 0
  lossCount : 1 ≤ g.lossCount ∧ g.lossCount ≤ 7
  degradeThreshold : 1 ≤ g.degradeThreshold ∧ g.degradeThreshold ≤ 255
  sweepBudget : g.sweepBudget ≤ 15

/-! ## The tool catalogue (R143, R144) -/

/-- R144: whether a slot's parent, leg and depth are as the slots before it in its tool allow. -/
def Slot.fits (before : List Slot) (x : Slot) : Prop :=
  if x.parent = 0 then x.leg = none ∧ x.depth = 0
  else
    x.leg.isSome = true ∧ x.depth ≤ Config.walkDepth ∧
      ∃ p, before[x.parent - 1]? = some p ∧ p.cls = Config.junctionClass ∧ p.lane = x.lane ∧ x.depth = p.depth + 1

/-- R144: a slot name: 1 to 8 characters of 21h..7Eh, the first not "~". -/
def nameAllowed (name : List Byte) : Prop :=
  1 ≤ name.length ∧ name.length ≤ 8 ∧ name.head? ≠ some 0x7E ∧ ∀ c ∈ name, 0x21 ≤ c.toNat ∧ c.toNat ≤ 0x7E

/-- R143, R144, R146: a tool's slots: allowed and distinct names, no lane expected NONE, fitting parents, ordinals of
1..8, distinct pins, distinct unpinned positions. -/
structure ToolInv (t : Tool) : Prop where
  number : 1 ≤ t.number ∧ t.number ≤ Config.toolCount
  names : ∀ x ∈ t.slots, nameAllowed x.name
  distinct : (t.slots.map Slot.name).Nodup
  lanes : ∀ x ∈ t.slots, t.expects.get x.lane ≠ .nothing
  fits : ∀ (i : Nat) (x : Slot), t.slots[i]? = some x → x.fits (t.slots.take i)
  ordinals : ∀ x ∈ t.slots, ∀ k, x.filling = .ordinal k → 1 ≤ k ∧ k ≤ 8
  apart : t.slots.Pairwise fun x y => y.samePin x = false ∧ y.samePosition x = false

/-- R143: up to 8 tools with distinct numbers and keys, and at most 64 slots in all. -/
structure CatalogueInv (c : Catalogue) : Prop where
  tools : ∀ t ∈ c.tools, ToolInv t
  ascending : c.tools.Pairwise fun t u => t.number < u.number
  keys : (c.tools.map Tool.key).Nodup
  places : c.places ≤ Config.poolPlaces

/-! ## The device table (R116, R117, R121, R138, R166) -/

/-- R116: the entry slots that the lanes' pending bindings reserve. -/
def State.reserved (s : State) : Nat := (Lane.all.filter fun m => (s.col m).walk.reserves).length

/-- R117, R121, R138, R166: what holds of every entry. -/
structure EntryInv (loss : Nat) (e : Entry) : Prop where
  handle : 1 ≤ e.key.handle ∧ e.key.handle ≤ Config.handleCount
  junction : e.flags.junction = true ↔ e.cls = Config.junctionClass
  miss : e.miss ≤ loss
  errors : e.errors ≤ Config.byteCount
  nameless : e.state = .away → e.name = none ∧ e.slotRef = none

/-- R97, R121: what a lane's reservation keeps free: its handle and its identity are no entry's of the lane. -/
def ReservationInv (s : State) (n : Lane) : Prop :=
  ∀ b, (s.col n).walk.binding = some b → b.kind = .new →
    1 ≤ b.handle ∧ b.handle ≤ Config.handleCount ∧
      ∀ e ∈ s.table.entries, e.key.lane = n → e.key.handle ≠ b.handle ∧ e.identity ≠ b.identity

/-- R116, R121: the table is in reporting order, so that no two entries of a lane share a handle; none share an
identity; entries and reservations never exceed 48; the away list holds exactly the AWAY entries, each once. -/
structure TableInv (s : State) : Prop where
  entries : ∀ e ∈ s.table.entries, EntryInv s.settings.lossCount e
  ordered : s.table.entries.Pairwise fun a b => a.key.before b.key = true
  identities : s.table.entries.Pairwise fun a b => a.key.lane = b.key.lane → a.identity ≠ b.identity
  room : s.table.entries.length + s.reserved ≤ Config.tableSlots
  awayOnce : s.table.away.Nodup
  away : ∀ k, k ∈ s.table.away ↔ ∃ e ∈ s.table.entries, e.key = k ∧ e.state = .away
  reservations : ∀ n, ReservationInv s n

/-! ## What may be under way in each lane state (R1, R4, R24, R91, R132) -/

/-- R25, R26, R30: a measurement's slope code and verdict are written with its V2, and follow from its codes. -/
def Measurement.follows (m : Measurement) : Prop :=
  match m.v1, m.v2 with
  | some a, some b => m.slope = some (slopeCode a b) ∧ m.verdict = some (measurementVerdict b (slopeCode a b))
  | _, none => m.slope = none ∧ m.verdict = none
  | none, some _ => False

/-- R24, R28, R30: the record of a series that runs: attempt 1, 2 or 3, its points written in the order P1, P2, P1, the
fourth not yet. -/
structure Measuring (r : SignatureRecord) : Prop where
  attempts : 1 ≤ r.attempts ∧ r.attempts ≤ Config.seriesAttempts
  first : r.m1.follows
  second : r.m2.follows ∧ r.m2.v2 = none
  order : r.m2.v1.isSome = true → r.m1.v2.isSome = true
  unjudged : r.attemptVerdict = none ∧ r.final = .none

/-- R1, R4, R10 to R12, R24, R40, R88, R91, R132: what a lane's column, with the tag its transfer slot owes a reply to, holds
in each lane state. -/
structure ColumnInv (c : Column) (owed : Option Byte) : Prop where
  settling : c.ctl.settle.isRunning = true ↔ c.ctl.state = .settling ∨ c.ctl.state = .parting
  granting : c.ctl.grantWindow.isRunning = true → c.ctl.state = .awaitGrant
  fresh : c.ctl.state = .awaitGrant → (c.ctl.grantWindow.isRunning = true ↔ c.ctl.mark = .fresh)
  pendingGrant : c.ctl.grantPending.isSome = true → c.ctl.state = .signature
  held : c.ctl.hold.isRunning = true → c.ctl.state ≠ .off ∧ c.ctl.state ≠ .walking ∧ c.ctl.state ≠ .ready
  powered : c.supervisor.switch = .closed ↔ c.ctl.state.powered = true
  booting : c.ctl.bootWait.isRunning = true ↔ c.ctl.state = .powering ∧ c.supervisor.phase = .policing
  measuring : c.ctl.state = .signature → Measuring c.ctl.record
  policing : c.ctl.state = .walking ∨ c.ctl.state = .ready → c.supervisor.phase = .policing
  signed : c.ctl.state = .awaitGrant ∨ c.ctl.state.powered = true →
    c.ctl.record.final = .valid ∧ c.ctl.record.cls.isSome = true
  budget : c.ctl.state.powered = true → c.supervisor.cls = c.ctl.record.cls
  faulted : c.ctl.state = .fault → c.ctl.fault ≠ .none
  walking : c.walk.phase ≠ .idle ↔ c.ctl.state = .walking
  walkEmpty : c.walk.phase = .idle →
    c.walk.stack = [] ∧ c.walk.root = JunctionList.empty ∧ c.walk.binding = none
  rolling : c.roll.phase ≠ .inactive ↔ c.ctl.state = .ready
  period : c.roll.period.isRunning = true ↔
    c.roll.phase = .waiting ∨ c.roll.phase = .sweeping ∨ c.roll.phase = .probing
  reading : c.slot ≠ .free → c.ctl.state = .ready
  owing : owed.isSome = true ↔ c.slot ≠ .free
  waiting : c.ctl.rewalkWaiting = true ↔ c.roll.phase = .halted
  rewalk : c.ctl.rewalkWaiting = true → c.slot ≠ .free
  lining : c.engine.inFlight.isSome = true ∨ c.arbiter.procedure.isSome = true ∨ c.arbiter.transfer.isSome = true →
    c.ctl.state = .walking ∨ c.ctl.state = .ready

/-- Every lane holds what its state allows. -/
def LanesInv (s : State) : Prop := ∀ n, ColumnInv (s.col n) (s.port.owed.get n)

/-! ## RESETN low (R174, R180) -/

/-- R174, R180: while RESETN is low every block stands at its reset values, nothing waits in the port and no window clocks
a frame; the window, the last reset cause and the waiting commands are what the fall of RESETN found. -/
structure HeldInv (s : State) : Prop where
  held : s.port.resetLow = true →
    s = { State.reset with
      port := { Port.reset with
        resetLow := true, notices := [], window := s.port.window, resetCause := s.port.resetCause }
      pending := s.pending }
  unclocked : s.port.resetLow = true → s.port.window = .closed ∨ s.port.window = .ignored

/-- R171, R180: whether the port takes a request: RESETN is high, and replies queued and owed are fewer than 8. -/
abbrev Port.takes (p : Port) : Prop := p.resetLow = false ∧ p.isFull = false

/-! ## What a command leaves alone -/

/-- The lane that an event names, the lane of the converter's job for a completion. -/
def eventLane (s : State) : Instr → Option Lane
  | .mateEvent n _ => some n
  | .openEvent n _ => some n
  | .tripEvent n _ => some n
  | .settleTimerExpiry n => some n
  | .grantWindowExpiry n => some n
  | .inrushWindowExpiry n _ => some n
  | .sampleDueInstant n => some n
  | .bootWaitExpiry n => some n
  | .remateHoldExpiry n => some n
  | .pointJobCompletion _ _ => s.converter.job.map Job.lane
  | .sampleJobCompletion _ _ => s.converter.job.map Job.lane
  | .idleCheckPassed n => some n
  | .lineStuck n => some n
  | .stall n _ => some n
  | .collision n _ => some n
  | .attemptEnd n _ _ => some n
  | .closingStop n => some n
  | .closingGivenUp n => some n
  | .rollCallPeriodExpiry n => some n
  | .chipSelectFall => none
  | .chipSelectRise _ => none
  | .hardwareReset _ _ _ => none
  | .status _ => none
  | .configure _ _ => none
  | .grant _ _ => none
  | .rewalk _ _ => none
  | .clear _ _ => none
  | .laneRead _ _ => none
  | .roster _ _ _ => none
  | .deviceRead _ _ _ _ _ => none
  | .deviceClear _ _ _ => none
  | .catTool _ _ _ _ => none
  | .catSlot _ _ _ => none
  | .catDrop _ _ => none
  | .catRead _ _ _ => none
  | .nameNow _ => none
  | .matchRead _ => none
  | .restart _ => none

/-- What an event of one lane leaves alone: the other lanes' columns, the settings, the catalogue, the waiting commands,
and in the port everything but the notice set, the reply queue and the lane's owed reply. -/
structure LaneFrame (n : Lane) (s t : State) : Prop where
  settings : t.settings = s.settings
  catalogue : t.catalogue = s.catalogue
  pending : t.pending = s.pending
  others : ∀ m, m ≠ n → t.col m = s.col m
  reset : t.port.resetLow = s.port.resetLow
  window : t.port.window = s.port.window
  buffer : t.port.buffer = s.port.buffer
  flags : t.port.flags = s.port.flags
  cause : t.port.resetCause = s.port.resetCause
  owed : ∀ m, m ≠ n → t.port.owed.get m = s.port.owed.get m

/-! ## Next states, told in one go

The statements name a command's next state by these: one column, one notice, and what leaving the powered states makes
of a lane, each written as the change that the rules give and not as the sequence of operations that makes it. -/

/-- The state with one lane's column replaced. -/
def State.withColumn (s : State) (n : Lane) (c : Column) : State := { s with columns := s.columns.set n c }

/-- R19: the notice of a lane transition that carries no signature. -/
def stateNotice (n : Lane) (state : LaneState) (reason : Reason) : Notice :=
  .laneState n { state, reason, count := 1, signature := none, powerGood := none }

/-- R19: the notice of a transition decided by a VALID verdict. -/
def validNotice (n : Lane) (state : LaneState) (reason : Reason) (cls : SupplyClass) (slope : Int) : Notice :=
  .laneState n { state, reason, count := 1, signature := some (cls, slope), powerGood := none }

/-- R153, R154: what the naming unit makes of a lane transition from `before` to `after`. -/
def toldNaming (before after : State) : State := if causedByTransition before after then passDue after else after

/-- R129: a raise of ROSTER in a notice set; none when it adds 0 to each count. -/
def rosterIn (n : Lane) (added removed changed : Nat) (slots : List NoticeSlot) : List NoticeSlot :=
  if added = 0 ∧ removed = 0 ∧ changed = 0 then slots
  else
    raiseIn (.roster n { added := min 255 added, removed := min 255 removed, changed := min 255 changed }) slots

/-- R13, R86, R89, R111, R133: a column whose lane leaves the powered states: switch open, boot wait stopped, walk
aborted, roll call stopped, line aborted with every request withdrawn, no read in flight, no re-walk waiting. -/
def Column.unpowered (c : Column) : Column :=
  { ctl := { c.ctl with bootWait := .stopped, rewalkWaiting := false }
    supervisor := Supervisor.reset
    engine :=
      if c.engine.phase = .idle ∨ c.engine.phase = .closing then
        { c.engine with inFlight := none, lastFailed := none }
      else
        { c.engine with phase := .closing, inFlight := none, lastFailed := none, lck := .released, lda := .released }
    arbiter := { procedure := none, transfer := none, lastGrant := .none }
    slot := .free
    walk :=
      if c.walk.phase = .idle then c.walk
      else
        { c.walk with
          phase := .idle, stack := [], root := JunctionList.empty, binding := none
          record := { c.walk.record with outcome := .aborted } }
    roll := { c.roll with phase := .inactive, period := .stopped, deferred := false, position := none } }

/-- R110, R111: the notice set after a walk that ran is aborted. -/
def Column.abortNotices (c : Column) (n : Lane) (slots : List NoticeSlot) : List NoticeSlot :=
  if c.walk.phase = .idle then slots else rosterIn n c.walk.record.added 0 c.walk.record.refound slots

/-- R89: the reply of a read that an abort ends. -/
def Column.goneReplies (c : Column) (owed : Option Byte) : List Reply :=
  match c.slot, owed with
  | .busy r, some tag =>
    [{ tag, code := 0x06, status := .laneGone, payload := BitVec.ofNat 8 r.bytes.length :: r.bytes }]
  | _, _ => []

/-- R13, R14: the table and the lane's ROSTER counts after its PRESENT and LOST entries turn AWAY; with a hold of 0 the
lane's entries go at once. -/
def State.leftTable (s : State) (n : Lane) (slots : List NoticeSlot) : DeviceTable × List NoticeSlot :=
  let changed := rosterIn n 0 0 ((s.table.ofLane n).filter Entry.bound).length slots
  if s.settings.remateHold = 0 then
    ({ entries := s.table.entries.filter fun e => e.key.lane != n
       away := s.table.away.filter fun k => !((s.table.ofLane n).map (·.key)).contains k },
      rosterIn n 0 (s.table.ofLane n).length 0 changed)
  else
    ({ entries := s.table.entries.map fun e =>
         if e.key.lane = n ∧ e.state ≠ .away then { e with state := .away, name := none, slotRef := none, miss := 0 }
         else e
       away := s.table.away ++ ((s.table.ofLane n).filter fun e => e.state != .away).map (·.key) },
      changed)

/-- R13, R14: the state of the part when a lane has left the powered states for PARTING or FAULT, its own transition not
yet told; `f` is what the transition makes of the lane controller besides. -/
def State.departed (s : State) (n : Lane) (f : LaneCtl → LaneCtl) : State :=
  let c := s.col n
  let held := { c.unpowered.ctl with
    hold := if s.settings.remateHold = 0 then c.ctl.hold else .running s.settings.remateHold }
  let left := s.leftTable n (c.abortNotices n s.port.notices)
  { s with
    columns := s.columns.set n { c.unpowered with ctl := f held }
    converter := s.converter.withdraw n
    table := left.1
    port := { s.port with
      owed := if c.slot = .free then s.port.owed else s.port.owed.set n none
      replies := s.port.replies ++ c.goneReplies (s.port.owed.get n)
      notices := left.2 } }

/-- R16, R50, R52: the state of the part when a powered lane has entered FAULT, the transition not yet told. -/
def State.faulted (s : State) (n : Lane) (code : FaultCode) (current voltage : Code) : State :=
  raise (stateNotice n .fault .faulted)
    (raise (.laneFault n { code, current, voltage })
      (s.departed n fun c => { c with state := .fault, fault := code }))

/-- R46 steps 1 and 2, R48: the supervisor after a sample is stored and the accumulator updated: 10 up to at most 60 on a
current code whose double is above the budget, 2 down to no less than 0 on any other. -/
def Supervisor.sampled (v : Supervisor) (cls : SupplyClass) (current voltage : Code) : Supervisor :=
  { v with
    current, voltage
    overload := if cls.budget < current.toNat * 2 then min 60 (v.overload + 10) else v.overload - 2 }

/-- R78: an engine that begins a transaction's attempt with the settings in force. -/
def Engine.granted (e : Engine) (g : Settings) (n : Lane) (q : Requester) (r : LineRequest) : Engine :=
  { e with
    phase := .idleCheck, inFlight := some { request := r, requester := q, retryLimit := g.retryLimit, attempt := 1 }
    rateInUse := some (g.lineRate.get n), stallInUse := some g.stallLimit, lastFailed := none
    lck := .released, lda := .released }

/-- R75, R78, R81: an engine that has been handed an attempt's result, its slots having taken the wires through these
stages, and begins another transaction. -/
def Engine.goesOn (e : Engine) (x : AttemptResult) (stages : List WireStage) (g : Settings) (n : Lane) (q : Requester)
    (r : LineRequest) : Engine := { e.granted g n q r with handed := some x, driven := stages }

/-- R75, R81: an engine at rest in IDLE that was last handed an attempt's result, its slots having taken the wires through
these stages. -/
def Engine.atRest (e : Engine) (x : AttemptResult) (stages : List WireStage) : Engine :=
  { e with
    phase := .idle, inFlight := none, rateInUse := none, stallInUse := none, lastFailed := none
    handed := some x, driven := stages, lck := .released, lda := .released }

/-- R75: the state of the part when a lane's engine has been handed an attempt's result, its slots having taken the wires
through these stages. -/
def State.handed (s : State) (n : Lane) (r : AttemptResult) (stages : List WireStage) : State :=
  s.withColumn n { s.col n with engine := { (s.col n).engine with handed := some r, driven := stages } }

/-- R63: the state of the part when a lane's closing has taken the wires through these stages. -/
def State.closed (s : State) (n : Lane) (stages : List WireStage) : State :=
  s.withColumn n { s.col n with engine := { (s.col n).engine with driven := stages } }

/-- R63: the two rows that end a lane's closing, with the stages through which each takes the wires. -/
def endsClosing (c : Instr) (n : Lane) (stages : List WireStage) : Prop :=
  (c = .closingStop n ∧ stages = closingStopStages) ∨ (c = .closingGivenUp n ∧ stages = givenUpStages)

/-- R78, R84: the state of the part when a lane's walk has gone on to `w` and its next request has been granted. -/
def State.walkAsks (s : State) (n : Lane) (w : WalkUnit) (r : LineRequest) : State :=
  s.withColumn n { s.col n with walk := w, engine := (s.col n).engine.granted s.settings n .procedure r }

/-- R95, R96, R99: the rows at which a round of a lane's walk fails, its transaction in flight, each with the state that the
walk unit then finds: the line errors counted, what the engine was handed and what it drove, and nothing else changed. -/
inductive RoundFails (s : State) (n : Lane) (t : Transaction) : Instr → State → Prop where
  /-- R95: the ENROL ends BAD_CHECK. -/
  | badCheck (acks : List Bool) (record : List Byte) :
      (s.col n).engine.phase.attempting = true → (s.col n).walk.phase = .rounds → t.request = enrolRequest →
      acks.headD false = true → record.length = 8 → crc8 (record.take 7) ≠ record.getLastD 0 →
      RoundFails s n t (.attemptEnd n acks record)
        (s.handed n { outcome := .badCheck, failedByte := none, bytesRead := some record, bitTimes := 83 }
          (t.request.run acks record).stages)
  /-- R96: the winner's identity is that of an entry bound in this walk. -/
  | refused (acks : List Bool) (record : List Byte) (e : Entry) :
      (s.col n).engine.phase.attempting = true → (s.col n).walk.phase = .rounds → t.request = enrolRequest →
      acks.headD false = true → record.length = 8 → crc8 (record.take 7) = record.getLastD 0 →
      e ∈ s.table.ofLane n → e.identity = identityOf record → e.state ≠ .away →
      RoundFails s n t (.attemptEnd n acks record)
        (s.handed n { outcome := .done, failedByte := none, bytesRead := some record, bitTimes := 83 }
          (t.request.run acks record).stages)
  /-- R95: the ENROL has ended STALL or COLLISION, and its closing ends. -/
  | broken (c : Instr) (stages : List WireStage) (o : Outcome) :
      endsClosing c n stages → (s.col n).engine.phase = .closing → (s.col n).walk.phase = .rounds →
      t.request = enrolRequest → (s.col n).engine.lastFailed = some (o, none) → o = .stall ∨ o = .collision →
      RoundFails s n t c (s.closed n stages)
  /-- R99: the RELEASE after a failed BIND ends DONE. -/
  | released (acks : List Bool) (bytes : List Byte) (b : PendingBinding) :
      (s.col n).engine.phase.attempting = true → (s.col n).walk.phase = .binding → (s.col n).walk.binding = some b →
      t.request = releaseRequest b.handle → acks.headD false = true →
      RoundFails s n t (.attemptEnd n acks bytes)
        (s.handed n { outcome := .done, failedByte := none, bytesRead := none, bitTimes := 11 }
          (t.request.run acks bytes).stages)
  /-- R99: nobody answers the last attempt of the RELEASE after a failed BIND. -/
  | unheard (acks : List Bool) (bytes : List Byte) (b : PendingBinding) :
      (s.col n).engine.phase.attempting = true → (s.col n).walk.phase = .binding → (s.col n).walk.binding = some b →
      t.request = releaseRequest b.handle → acks.headD false = false → t.retryLimit < t.attempt →
      RoundFails s n t (.attemptEnd n acks bytes)
        ((countLineError ⟨n, b.handle⟩ s).handed n
          { outcome := .noAck, failedByte := some 1, bytesRead := none, bitTimes := 11 } (t.request.run acks bytes).stages)
  /-- R99: the last attempt of the RELEASE after a failed BIND has ended STALL or COLLISION, and its closing ends. -/
  | unreleased (c : Instr) (stages : List WireStage) (b : PendingBinding) :
      endsClosing c n stages → (s.col n).engine.phase = .closing → (s.col n).walk.phase = .binding →
      (s.col n).walk.binding = some b → t.request = releaseRequest b.handle → t.retryLimit < t.attempt →
      RoundFails s n t c (s.closed n stages)

/-- R99: the walk unit after a failed round: no pending binding, the round counted, in a row and in the record. -/
def WalkUnit.failedOnce (w : WalkUnit) : WalkUnit :=
  { w with
    binding := none, failedInRow := w.failedInRow + 1
    record := { w.record with failedRounds := min 65535 (w.record.failedRounds + 1) } }

/-- R107: whether a walk's end opens an entry's legs. -/
def Entry.opened (n : Lane) (e : Entry) : Prop :=
  e.key.lane = n ∧ e.state = .present ∧ e.cls = 1 ∧ e.depth ≤ 1 ∧ e.flags.depthLimit = false ∧ e.flags.legFailed = false

/-- R107: the order in which a walk's end opens legs: by depth, then by handle. -/
def Entry.opensBefore (a b : Entry) : Prop := a.depth < b.depth ∨ (a.depth = b.depth ∧ a.key.handle < b.key.handle)

/-- R107: the first entry of a lane that a walk's end opens, after one where there is one. -/
def State.opensNext (s : State) (n : Lane) (done : Option Entry) (x : Entry) : Prop :=
  (x ∈ s.table.entries ∧ x.opened n ∧ ∀ d ∈ done, d.opensBefore x) ∧
    ∀ y ∈ s.table.entries, y.opened n → (∀ d ∈ done, d.opensBefore y) → y = x ∨ x.opensBefore y

/-- R107: a walk's end has no entry of a lane left to open. -/
def State.opensNone (s : State) (n : Lane) (done : Option Entry) : Prop :=
  ∀ y ∈ s.table.entries, y.opened n → ∃ d ∈ done, ¬d.opensBefore y

/-- R11, R106, R108, R110, R124, R129, R133: the state of the part when a lane's walk has ended: AWAY entries gone, the
record closed, ROSTER told, the lane in READY with its roll-call period started. -/
def State.walkEnded (s : State) (n : Lane) : State :=
  let w := (s.col n).walk
  let gone := s.table.awayOf n
  toldNaming s (raise (stateNotice n .ready .walkDone)
    { s.withColumn n
        { s.col n with
          ctl := { (s.col n).ctl with state := .ready }
          walk := { w with
            phase := .idle, stack := [], root := JunctionList.empty, binding := none
            record := { w.record with
              removed := gone.length
              outcome := if w.record.reasons = WalkReasons.empty then .complete else .incomplete } }
          roll := { (s.col n).roll with
            phase := .waiting, deferred := false, position := none, period := .running s.settings.rollCallPeriod } } with
      table :=
        { entries := s.table.entries.filter fun e => !gone.contains e.key
          away := s.table.away.filter fun k => !gone.contains k }
      port := { s.port with notices := rosterIn n w.record.added gone.length w.record.refound s.port.notices } })

/-- R104, R105, R107: the state of the part when LEG_FAILED is set on a junction's entry and noted by the walk. -/
def State.legFlagged (s : State) (n : Lane) (h : Nat) : State :=
  let w := (s.col n).walk
  { s.withColumn n
      { s.col n with
        walk := { w with record := { w.record with reasons := { w.record.reasons with legFailed := true } } } } with
    table := s.table.write ⟨n, h⟩ fun e => { e with flags := { e.flags with legFailed := true } } }

/-- R12, R86, R92, R133: the column of a lane that leaves READY for WALKING with its engine at rest: roll call stopped, no read
in flight, the walk begun with its opening RELEASE granted; `engine` is the engine that runs it. -/
def Column.rewalked (c : Column) (used : Nat) (engine : Engine) : Column :=
  { ctl := { c.ctl with state := .walking, hold := .stopped, rewalkWaiting := false }
    supervisor := c.supervisor
    engine
    arbiter := { procedure := none, transfer := none, lastGrant := .procedure }
    slot := .free
    walk :=
      { phase := .releasing, stack := [], root := JunctionList.empty, failedInRow := 0, releases := 0
        binding := none, record := WalkRecord.start .running }
    roll := { phase := .inactive, period := .stopped, deferred := false, position := none, used } }

/-- R107, R108: the state of the part when a lane's walk, gone on to `w`, has ended with nothing left to place. -/
def State.walkRests (s : State) (n : Lane) (w : WalkUnit) : State :=
  State.walkEnded (s.withColumn n
    { s.col n with
      walk := w
      engine := { (s.col n).engine with
        phase := .idle, inFlight := none, rateInUse := none, stallInUse := none, lastFailed := none
        lck := .released, lda := .released } }) n

/-- R107, R108: the walk of a lane, gone on to `w`, opens the first junction after `done`, or ends when none is left. -/
def State.opensOrEnds (s : State) (n : Lane) (done : Option Entry) (w : WalkUnit)
    (next : Host.Outcome State Fault Refusal) : Prop :=
  (∀ e, s.opensNext n done e → next = .next (s.walkAsks n w (legRequest e.key.handle 0x03))) ∧
    (s.opensNone n done → next = .next (s.walkRests n w))

/-! ## The settings table (R176), told in one go -/

/-- R176: the value taken for a setting id of the table. -/
def takenValue (id v : Nat) : Nat :=
  let within (low high step : Nat) : Nat := min high (max low (v / step * step))
  match id with
  | 0x01 => within 10 250 10
  | 0x02 => within 0 5000 100
  | 0x03 => within 5 500 5
  | 0x04 => within 1 50 1
  | 0x05 => within 0 7 1
  | 0x06 => within 50 2000 10
  | 0x07 => within 1 7 1
  | 0x08 => within 1 255 1
  | 0x0A => within 0 15 1
  | 0x31 | 0x32 | 0x33 | 0x34 => if v < 50 then 25 else if v < 100 then 50 else if v < 200 then 100 else 200
  | _ => min 1 v

/-- R55, R176: the line rate of a value taken. -/
def rateTaken (v : Nat) : LineRate := if v = 25 then .k25 else if v = 50 then .k50 else if v = 100 then .k100 else .k200

/-- R176: the settings after a value taken is stored under its id. -/
def Settings.stored (g : Settings) (id v : Nat) : Settings :=
  let policy : GrantPolicy := if v = 0 then .held else .auto
  match id with
  | 0x01 => { g with mateSettle := v }
  | 0x02 => { g with remateHold := v }
  | 0x03 => { g with bootWait := v }
  | 0x04 => { g with stallLimit := v }
  | 0x05 => { g with retryLimit := v }
  | 0x06 => { g with rollCallPeriod := v }
  | 0x07 => { g with lossCount := v }
  | 0x08 => { g with degradeThreshold := v }
  | 0x09 => { g with sweep := v = 1 }
  | 0x0A => { g with sweepBudget := v }
  | 0x11 => { g with policy := g.policy.set .one policy }
  | 0x12 => { g with policy := g.policy.set .two policy }
  | 0x13 => { g with policy := g.policy.set .three policy }
  | 0x14 => { g with policy := g.policy.set .four policy }
  | 0x21 => { g with enabled := g.enabled.set .one (v = 1) }
  | 0x22 => { g with enabled := g.enabled.set .two (v = 1) }
  | 0x23 => { g with enabled := g.enabled.set .three (v = 1) }
  | 0x24 => { g with enabled := g.enabled.set .four (v = 1) }
  | 0x31 => { g with lineRate := g.lineRate.set .one (rateTaken v) }
  | 0x32 => { g with lineRate := g.lineRate.set .two (rateTaken v) }
  | 0x33 => { g with lineRate := g.lineRate.set .three (rateTaken v) }
  | 0x34 => { g with lineRate := g.lineRate.set .four (rateTaken v) }
  | _ => g

/-- R176: the ids of the settings table. -/
def settingIds : List Nat :=
  [0x01, 0x02, 0x03, 0x04, 0x05, 0x06, 0x07, 0x08, 0x09, 0x0A, 0x11, 0x12, 0x13, 0x14, 0x21, 0x22, 0x23, 0x24, 0x31, 0x32,
    0x33, 0x34]

/-- R176: a pair of a CONFIGURE reply. -/
def pairTaken (p : SettingPair) : List Byte :=
  let v := takenValue p.id.toNat p.value.toNat
  [p.id, BitVec.ofNat 8 (v / 256), BitVec.ofNat 8 v]

/-! ## The view of a naming pass (R156, R160, R161) -/

/-- R156: whether an entry is in the view of a naming pass: PRESENT or LOST, on a lane in READY. -/
def State.views (s : State) (e : Entry) : Prop :=
  e ∈ s.table.entries ∧ e.state ≠ .away ∧ s.laneState e.key.lane = .ready

/-- R160: whether a slot has an anchor, by what fills its tool's slots, and an entry stands there with the slot's lane and
class. -/
def Slot.fitsAt (x : Slot) (filled : List Filled) (e : Entry) : Prop :=
  e.key.lane = x.lane ∧ e.cls = x.cls ∧
    (if x.parent = 0 then e.parent = 0
     else e.leg = x.leg ∧ ∃ f ∈ filled, f.index = x.parent ∧ e.parent = f.key.handle)

end Sys2Proof.Machine
end

