-- ==== Sys2Proof/WellFormed.lean ====
section
/-!
DEFINITION. Which commands the outside can give: the checks on operands that their types do not make already.
The meanings are total all the same (log 3): what an ill-formed command does is said there.
-/

namespace Sys2Proof

/-- The most slots of an attempt: a PEEK of 16 bytes, 2 + 9 × 20 (R76). -/
def slotLimit : Nat := 182

/-- The checks on a command's operands. Which slots an attempt has depends on its transaction, and the meanings check that
(`LineRequest.stalled`, `LineRequest.collided`). Request fields are raw bytes that the part itself checks (R175), so only
their number is checked here. -/
def Instr.wf : Instr → Bool
  | .mateEvent _ contact => contact.reads == .mated
  | .openEvent _ contact => contact.reads == .opened
  | .stall _ slot => 2 ≤ slot.number && slot.number ≤ slotLimit
  | .collision _ ⟨slot, .clockLow⟩ => slot == 1
  | .collision _ ⟨slot, .readLow⟩ => 2 ≤ slot && slot ≤ slotLimit
  | .collision _ ⟨slot, .changed⟩ => 2 ≤ slot && slot ≤ slotLimit
  | .collision _ ⟨slot, .heldAtStop⟩ => 2 ≤ slot && slot ≤ slotLimit
  | .attemptEnd _ acks bytes => 1 ≤ acks.length && acks.length ≤ 8 && bytes.length ≤ Config.chunkLimit + 1
  | .configure _ pairs => 1 ≤ pairs.length && pairs.length ≤ Config.pairLimit
  | .catSlot _ _ slot => slot.name.length == 8
  | .tripEvent _ _ => true
  | .settleTimerExpiry _ => true
  | .grantWindowExpiry _ => true
  | .inrushWindowExpiry _ _ => true
  | .sampleDueInstant _ => true
  | .bootWaitExpiry _ => true
  | .remateHoldExpiry _ => true
  | .pointJobCompletion _ _ => true
  | .sampleJobCompletion _ _ => true
  | .idleCheckPassed _ => true
  | .lineStuck _ => true
  | .closingStop _ => true
  | .closingGivenUp _ => true
  | .rollCallPeriodExpiry _ => true
  | .chipSelectFall => true
  | .chipSelectRise _ => true
  | .hardwareReset _ _ _ => true
  | .status _ => true
  | .grant _ _ => true
  | .rewalk _ _ => true
  | .clear _ _ => true
  | .laneRead _ _ => true
  | .roster _ _ _ => true
  | .deviceRead _ _ _ _ _ => true
  | .deviceClear _ _ _ => true
  | .catTool _ _ _ _ => true
  | .catDrop _ _ => true
  | .catRead _ _ _ => true
  | .nameNow _ => true
  | .matchRead _ => true
  | .restart _ => true

end Sys2Proof
end

