-- ==== Sys2Proof/Certificates/Slice0/Obligations.lean ====
section
/-!
DEFINITION. The statements about the model. Each docstring names the rules of spec/ it formalises.
-/

open Sys2Proof Sys2Proof.Machine

/-! ## The machine as a whole -/

/-- A step takes the command at the front of the queue and is its exec on the state with the queue's rest; an empty queue
idles. The queue is the model's own (log 1, log 22). -/
def Obligations.StepRunsFrontCommand : Prop :=
  (∀ (c : Instr) (rest : List Instr) (s : State), step { s with pending := c :: rest } = exec c { s with pending := rest })
    ∧ ∀ s : State, s.pending = [] → step s = .next s

/-- Every row of the command table is taken in every state: no command stops the part, and none touches the commands that
wait behind it (95_what_each_step_holds.md; log 1, log 3, log 20). -/
def Obligations.CommandsCompleteAndKeepQueue : Prop :=
  ∀ (c : Instr) (s : State), ∃ t, exec c s = .next t ∧ t.pending = s.pending

/-- An event of one lane leaves the other lanes' columns and owed replies, the settings, the catalogue, the waiting
commands, and the port's window, buffer, link flags and reset cause as they are (section 1.0, R54, R86). -/
def Obligations.EventsKeepOtherLanes : Prop :=
  ∀ (c : Instr) (s t : State) (n : Lane), eventLane s c = some n → exec c s = .next t → LaneFrame n s t

/-- A host frame that spells a request does what the request's row does, no field dropped or misplaced: decoded alone, and
clocked in a window that its chip-select rise ends, where the outgoing frame's delivery comes first and what the host
clocks after its frame's end is ignored (R169, R171, R175, section 11.6). The model's choices: log 4, log 5. -/
def Obligations.RequestFramesDecode : Prop :=
  ∀ (c : Instr) (bytes frame : List Byte) (extra : List Bool) (carried : LinkFlags) (s : State),
    c.wf = true → frameOf c = some bytes →
      exec c s = .next (decodeFrame bytes s) ∧
      (s.port.window = .clocking frame carried →
        exec (.chipSelectRise (bitsOf bytes ++ extra)) s =
          exec c { s with port := s.port.endWindow frame carried (bytes.length + extra.length / 8) })

/-! ## Invariants that every step keeps -/

/-- R170, R173: a step keeps the reply queue and owed replies within 8, the notices one for each source and kind, and
the buffer at its head. -/
def Obligations.PortInvKept : Prop := ∀ s t : State, PortInv s → step s = .next t → PortInv t

/-- R1, R4, R10 to R12, R35, R40, R41, R48, R49, R51, R88, R91, R132: a step keeps the supply rules of every lane, and
with them what each lane state allows to be under way. The model's choices: log 2. -/
def Obligations.SupplyAndLanesInvKept : Prop :=
  ∀ s t : State, SupplyInv s → step s = .next t → SupplyInv t ∧ (LanesInv s → LanesInv t)

/-- R143 to R146, R174, R176, R180: a step keeps every setting in its range and on its step, the catalogue's structure, and
while RESETN is low the whole part at its reset values. The model's choices: log 7. -/
def Obligations.SettingsCatalogueAndHoldKept : Prop :=
  ∀ s t : State, step s = .next t →
    (SettingsInv s.settings → SettingsInv t.settings) ∧ (CatalogueInv s.catalogue → CatalogueInv t.catalogue) ∧
      (HeldInv s → HeldInv t)

/-- R116, R117, R120 to R124, R138, R166: a step keeps the device table's structure. -/
def Obligations.TableInvKept : Prop :=
  ∀ s t : State, TableInv s → step s = .next t → TableInv t

/-- Every invariant holds right after reset (R21, R53, R131, R151, R176, R180). The model's choices: log 6. -/
def Obligations.ResetMeetsInvariants : Prop :=
  PortInv State.reset ∧ SupplyInv State.reset ∧ SettingsInv State.reset.settings ∧
    CatalogueInv State.reset.catalogue ∧ TableInv State.reset ∧ LanesInv State.reset ∧ HeldInv State.reset

/-! ## Mating, signatures and the grant window (chapter 1) -/

/-- Contact events outside the powered states. MATE_EVENT, a contact of 60 kΩ or less at a comparator that reads OPEN: EMPTY
and PARTING enter SETTLING, the timer started and the used count 0; every other state stores the reading. OPEN_EVENT:
SETTLING goes to EMPTY; SIGNATURE, AWAIT_GRANT and FAULT to PARTING; PARTING starts its timer again; OFF and EMPTY stay. A
blanked comparator, or RESETN low, shows none (R2 to R6, R15, R17, R18, R180). The model's choices: log 3, log 7, log 17. -/
def Obligations.ContactEventsOutsidePower : Prop :=
  ∀ (n : Lane) (ohms : Nat) (contact : Contact) (s : State),
    let c := s.col n
    let mate := exec (.mateEvent n (.resistance ohms)) s
    let open' := exec (.openEvent n contact) s
    (s.converter.blanks n = true ∨ s.port.resetLow = true → mate = .next s ∧ open' = .next s) ∧
    (s.converter.blanks n = false → s.port.resetLow = false →
      (ohms ≤ 60000 → c.ctl.reading = .opened →
        (s.laneState n = .empty ∨ s.laneState n = .parting →
          mate =
            .next (toldNaming s (raise (stateNotice n .settling .mated) (s.withColumn n
              { c with
                ctl := { c.ctl with reading := .mated, state := .settling, settle := .running s.settings.mateSettle }
                roll := { c.roll with used := 0 } })))) ∧
        (s.laneState n ≠ .empty → s.laneState n ≠ .parting →
          mate = .next (s.withColumn n { c with ctl := { c.ctl with reading := .mated } }))) ∧
      (contact.reads = .opened → c.ctl.reading = .mated →
        let parts : Column → State := fun d => toldNaming s (raise (stateNotice n .parting .opened) (s.withColumn n
          { d with
            ctl := { d.ctl with reading := .opened, state := .parting, settle := .running s.settings.mateSettle } }))
        (s.laneState n = .off ∨ s.laneState n = .empty →
          open' = .next (s.withColumn n { c with ctl := { c.ctl with reading := .opened } })) ∧
        (s.laneState n = .settling →
          open' =
            .next (toldNaming s (raise (stateNotice n .empty .opened) (s.withColumn n
              { c with ctl := { c.ctl with reading := .opened, state := .empty, settle := .stopped } })))) ∧
        (s.laneState n = .signature →
          open' =
            .next (toldNaming s (raise (stateNotice n .parting .opened)
              { s.withColumn n
                  { c with
                    ctl := { c.ctl with
                      reading := .opened, state := .parting, settle := .running s.settings.mateSettle
                      grantPending := none } } with
                converter := s.converter.withdraw n }))) ∧
        (s.laneState n = .awaitGrant →
          open' = .next (parts { c with ctl := { c.ctl with grantWindow := .stopped } })) ∧
        (s.laneState n = .parting →
          open' =
            .next (s.withColumn n
              { c with ctl := { c.ctl with reading := .opened, settle := .running s.settings.mateSettle } })) ∧
        (s.laneState n = .fault → open' = .next (parts c))))

/-- OPEN_EVENT in a powered state: the switch opens, walk, roll call, line and read end, the lane's entries turn AWAY,
the re-mate hold starts (or, at a hold of 0, the entries go), and the lane enters PARTING (R10, R11, R13, R14, R15,
R86, R89, R111, R119, R133). The model's choices: log 8, log 13. -/
def Obligations.OpenEventLeavesPower : Prop :=
  ∀ (n : Lane) (contact : Contact) (s : State),
    contact.reads = .opened → (s.col n).ctl.reading = .mated → s.converter.blanks n = false → s.port.resetLow = false →
    (s.laneState n).powered = true →
      exec (.openEvent n contact) s =
        .next (toldNaming s (raise (stateNotice n .parting .opened)
          (s.departed n fun c =>
            { c with reading := .opened, state := .parting, settle := .running s.settings.mateSettle })))

/-- SETTLE_TIMER_EXPIRY: SETTLING goes to SIGNATURE with a cleared record, attempt 1 begun and its first P1 placed; PARTING
goes to EMPTY. GRANT_WINDOW_EXPIRY sets the signature mark to STALE and raises no notice. REMATE_HOLD_EXPIRY removes every
AWAY entry of the lane from the table and the away list and counts them in ROSTER removed (R3, R4, R5, R14, R15, R24, R30,
R124, R129). The model's choices: log 2. -/
def Obligations.LaneTimersExpire : Prop :=
  ∀ (n : Lane) (s : State),
    let c := s.col n
    (c.ctl.settle.isRunning = true →
      (s.laneState n = .settling →
        exec (.settleTimerExpiry n) s =
          .next (toldNaming s (raise (stateNotice n .signature .settled)
            { s.withColumn n
                { c with
                  ctl := { c.ctl with
                    state := .signature, settle := .stopped
                    record := { SignatureRecord.cleared with attempts := 1 } } } with
              converter := s.converter.place (.point .p1) n }))) ∧
      (s.laneState n = .parting →
        exec (.settleTimerExpiry n) s =
          .next (toldNaming s (raise (stateNotice n .empty .parted) (s.withColumn n
            { c with ctl := { c.ctl with state := .empty, settle := .stopped } }))))) ∧
    (c.ctl.grantWindow.isRunning = true →
      exec (.grantWindowExpiry n) s =
        .next (s.withColumn n { c with ctl := { c.ctl with grantWindow := .stopped, mark := .stale } })) ∧
    (c.ctl.hold.isRunning = true →
      exec (.remateHoldExpiry n) s =
        .next
          { s.withColumn n { c with ctl := { c.ctl with hold := .stopped } } with
            table :=
              { entries := s.table.entries.filter fun e => !(s.table.awayOf n).contains e.key
                away := s.table.away.filter fun k => !(s.table.awayOf n).contains k }
            port := { s.port with
              notices := rosterIn n 0 ((s.table.ofLane n).filter fun e => e.state == .away).length 0 s.port.notices } })

/-- BOOT_WAIT_EXPIRY: POWERING goes to WALKING, the hold stops, and the walk starts with a RELEASE to handle 31, granted at
once on an idle engine and kept by the arbiter while a line is being closed (R9, R10, R84, R92). -/
def Obligations.BootWaitExpiryStartsWalk : Prop :=
  ∀ (n : Lane) (s : State), (s.col n).ctl.bootWait.isRunning = true → (s.col n).arbiter.transfer = none →
    exec (.bootWaitExpiry n) s =
      .next (toldNaming s (raise (stateNotice n .walking .bootDone) (s.withColumn n
        { s.col n with
          ctl := { (s.col n).ctl with state := .walking, bootWait := .stopped, hold := .stopped }
          walk :=
            { phase := .releasing, stack := [], root := JunctionList.empty, failedInRow := 0, releases := 0
              binding := none, record := WalkRecord.start .running }
          engine :=
            if (s.col n).engine.phase = .idle then
              (s.col n).engine.granted s.settings n .procedure (releaseRequest 31)
            else (s.col n).engine
          arbiter :=
            if (s.col n).engine.phase = .idle then
              { procedure := none, transfer := none, lastGrant := .procedure }
            else { (s.col n).arbiter with procedure := some (releaseRequest 31) } })))

/-! ## LANE_CONTROL (chapter 1) -/

/-- GRANT in AWAIT_GRANT: with a FRESH mark the lane goes to POWERING, its class handed to the supply and the inrush
window started; with a STALE one it goes to SIGNATURE with the class of the stale record pending. CLEAR in FAULT: the
fault code is NONE and the lane enters SETTLING (R3, R5, R7, R8, R17, R41, R42, R44). The model's choices: log 4. -/
def Obligations.GrantAndClearAreTaken : Prop :=
  ∀ (tag lane : Byte) (n : Lane) (s : State), laneField lane = some n → s.port.takes →
    let c := s.col n
    let answered : State → Host.Outcome State Fault Refusal := fun x =>
      .next (placeReply { tag, code := 0x03, status := .ok, payload := [] } x)
    (s.laneState n = .awaitGrant → c.supervisor.switch = .opened →
      (c.ctl.mark = .fresh →
        exec (.grant tag lane) s =
          answered (toldNaming s (raise (stateNotice n .powering .granted) (s.withColumn n
            { c with
              ctl := { c.ctl with state := .powering, grantWindow := .stopped }
              supervisor := { c.supervisor with
                switch := .closed, phase := .inrush, cls := c.ctl.record.cls, inrush := .running 50 } })))) ∧
      (c.ctl.mark = .stale →
        exec (.grant tag lane) s =
          answered (toldNaming s (raise (stateNotice n .signature .granted)
            { s.withColumn n
                { c with
                  ctl := { c.ctl with
                    state := .signature, grantPending := c.ctl.record.cls
                    record := { SignatureRecord.cleared with attempts := 1 } } } with
              converter := s.converter.place (.point .p1) n })))) ∧
    (s.laneState n = .fault →
      exec (.clear tag lane) s =
        answered (toldNaming s (raise (stateNotice n .settling .cleared) (s.withColumn n
          { c with
            ctl := { c.ctl with state := .settling, fault := .none, settle := .running s.settings.mateSettle }
            roll := { c.roll with used := 0 } }))))

/-- REWALK in READY: roll call and line stop, a read in flight ends LANE_GONE, the sweep re-walks used count is 0, and the
lane enters WALKING with a RELEASE to handle 31 placed (R7, R10, R11, R86, R89, R92, R133). That the LANE_GONE reply comes
before the reply OK of the REWALK is the model's choice: no rule orders the two (log 27). The model's choices: log 4, log 27. -/
def Obligations.RewalkIsTaken : Prop :=
  ∀ (tag lane : Byte) (n : Lane) (s : State),
    laneField lane = some n → s.port.takes → s.laneState n = .ready →
      exec (.rewalk tag lane) s =
        .next (placeReply { tag, code := 0x03, status := .ok, payload := [] }
          (toldNaming s (raise (stateNotice n .walking .rewalkRequested)
            { s.withColumn n
                { ctl := { (s.col n).ctl with state := .walking, hold := .stopped, rewalkWaiting := false }
                  supervisor := (s.col n).supervisor
                  engine :=
                    if (s.col n).engine.phase = .idle then
                      (s.col n).engine.granted s.settings n .procedure (releaseRequest 31)
                    else (s.col n).unpowered.engine
                  arbiter :=
                    if (s.col n).engine.phase = .idle then
                      { procedure := none, transfer := none, lastGrant := .procedure }
                    else { procedure := some (releaseRequest 31), transfer := none, lastGrant := .none }
                  slot := .free
                  walk :=
                    { phase := .releasing, stack := [], root := JunctionList.empty, failedInRow := 0, releases := 0
                      binding := none, record := WalkRecord.start .running }
                  roll := { phase := .inactive, period := .stopped, deferred := false, position := none, used := 0 } } with
              port := { s.port with
                owed := if (s.col n).slot = .free then s.port.owed else s.port.owed.set n none
                replies := s.port.replies ++ (s.col n).goneReplies (s.port.owed.get n) } })))

/-- GRANT, REWALK and CLEAR are refused in every lane state but their own, and out of range for a lane field outside
1..4; a LANE_CONTROL frame with an action byte outside 1..3 is out of range, whatever its lane field; a refusal changes
nothing but the reply queue (R7, R175). The model's choices: log 4. -/
def Obligations.LaneControlIsRefused : Prop :=
  ∀ (tag lane action : Byte) (s : State), s.port.takes →
    let refusal : Status → Reply := fun st => { tag, code := 0x03, status := st, payload := [] }
    (action = 0 ∨ 3 < action.toNat →
      decodeFrame [0x03, tag, 2, lane, action] s = placeReply (refusal .range) s) ∧
    (lane = 0 ∨ 4 < lane.toNat →
      exec (.grant tag lane) s = .next (placeReply (refusal .range) s) ∧
      exec (.rewalk tag lane) s = .next (placeReply (refusal .range) s) ∧
      exec (.clear tag lane) s = .next (placeReply (refusal .range) s)) ∧
    ∀ n, lane.toNat = n.number →
      (s.laneState n ≠ .awaitGrant → exec (.grant tag lane) s = .next (placeReply (refusal .refusedState) s)) ∧
      (s.laneState n ≠ .ready → exec (.rewalk tag lane) s = .next (placeReply (refusal .refusedState) s)) ∧
      (s.laneState n ≠ .fault → exec (.clear tag lane) s = .next (placeReply (refusal .refusedState) s))

/-! ## Supply supervision (chapter 3) -/

/-- TRIP_EVENT: with the comparator armed, a current above twice the class's budget opens the switch and moves the lane to
FAULT with code SHORT and the readings held; at or below it, or not armed, nothing. INRUSH_WINDOW_EXPIRY: CHECK, the sample
period started and a sample job placed; a current already too high trips at the arming. SAMPLE_DUE_INSTANT starts the period
again and places a job; one already pending absorbs it (R13, R16, R32, R35, R36, R44, R45, R50, R52). The model's choices: log
8, log 13, log 17. -/
def Obligations.SupplyEventsAreTaken : Prop :=
  ∀ (n : Lane) (milliamps : Nat) (cls : SupplyClass) (s : State),
    let v := (s.col n).supervisor
    let shorted : State → State := fun x => toldNaming s (x.faulted n .short v.current v.voltage)
    ((s.laneState n).powered = true → v.cls = some cls →
      (v.phase = .check ∨ v.phase = .policing → 2 * cls.budget < milliamps →
        exec (.tripEvent n milliamps) s = .next (shorted s)) ∧
      (milliamps ≤ 2 * cls.budget ∨ v.phase = .idle ∨ v.phase = .inrush → exec (.tripEvent n milliamps) s = .next s)) ∧
    (v.samplePeriod.isRunning = true →
      exec (.sampleDueInstant n) s =
        .next
          { s.withColumn n { s.col n with supervisor := { v with samplePeriod := .running 10 } } with
            converter :=
              if s.converter.job = none then
                { s.converter with samplePending := s.converter.samplePending.set n true }.arbitrate
              else { s.converter with samplePending := s.converter.samplePending.set n true } }) ∧
    (v.inrush.isRunning = true → v.cls = some cls → (s.laneState n).powered = true →
      let checking : State :=
        { s.withColumn n
            { s.col n with supervisor := { v with phase := .check, inrush := .stopped, samplePeriod := .running 10 } } with
          converter := s.converter.place .sample n }
      (milliamps ≤ 2 * cls.budget → exec (.inrushWindowExpiry n milliamps) s = .next checking) ∧
      (2 * cls.budget < milliamps → exec (.inrushWindowExpiry n milliamps) s = .next (shorted checking)))

/-- SAMPLE_JOB_COMPLETION. In CHECK, the accumulator below its limit: a voltage code of 2700 or more passes power good,
which starts the boot wait and tells the voltage; a lower one faults NO_POWER_GOOD with both readings of the report 0. In
POLICING: an accumulator that reaches 60 faults OVERLOAD; else a third voltage code in a row below 2700 faults SUPPLY_LOW,
both with the sample's codes; else the low-supply count alone follows; there the state meets SupplyInv, by which no stored
accumulator stands at its limit. The converter then takes its next job (R9, R13, R16, R36, R37, R46 to R50, R52). The model's
choices: log 8, log 11, log 13. -/
def Obligations.SamplesAreJudged : Prop :=
  ∀ (n : Lane) (current voltage : Code) (cls : SupplyClass) (s : State),
    s.converter.job = some { lane := n, kind := .sample, live := true } → (s.laneState n).powered = true →
    (s.col n).supervisor.cls = some cls →
      let v := (s.col n).supervisor.sampled cls current voltage
      let next := exec (.sampleJobCompletion current voltage) s
      ((s.col n).supervisor.phase = .check → v.overload < 60 →
        (2700 ≤ voltage.toNat →
          next =
            .next (raise
              (.laneState n
                { state := .powering, reason := .powerGood, count := 1, signature := none, powerGood := some voltage })
              { s.withColumn n
                  { s.col n with
                    ctl := { (s.col n).ctl with bootWait := .running s.settings.bootWait }
                    supervisor := { v with phase := .policing, lowCount := 0 } } with
                converter := s.converter.complete })) ∧
        (voltage.toNat < 2700 →
          next =
            .next ((toldNaming s ((s.withColumn n { s.col n with supervisor := v }).faulted n .noPowerGood 0 0)).modConverter
              Converter.complete))) ∧
      (SupplyInv s → (s.col n).supervisor.phase = .policing →
        let low := if voltage.toNat < 2700 then (s.col n).supervisor.lowCount + 1 else 0
        let stored := s.withColumn n { s.col n with supervisor := { v with lowCount := low } }
        next =
          .next
            ((if v.overload = 60 then toldNaming s (stored.faulted n .overload current voltage)
              else if 3 ≤ low then toldNaming s (stored.faulted n .supplyLow current voltage)
              else stored).modConverter Converter.complete))

/-! ## Signature measurement and the converter (chapter 2) -/

/-- R26: a measurement's verdict from its V2 and its slope, the first test that holds: V2 of 4095 or a slope of 2400 or more
is OPEN, a negative slope NOISY, 0..39 SHORT, a slope in a class band that class, any other AMBIGUOUS. -/
def Obligations.MeasurementVerdictFirstTest : Prop :=
  ∀ (v2 : Code) (slope : Int),
    let v := measurementVerdict v2 slope
    (v2 = 4095 ∨ 2400 ≤ slope → v = .opened) ∧
    (v2 ≠ 4095 → slope < 0 → v = .noisy) ∧
    (v2 ≠ 4095 → 0 ≤ slope → slope ≤ 39 → v = .short) ∧
    (v2 ≠ 4095 → 184 ≤ slope → slope ≤ 216 → v = .ofClass .a) ∧
    (v2 ≠ 4095 → 368 ≤ slope → slope ≤ 432 → v = .ofClass .b) ∧
    (v2 ≠ 4095 → 736 ≤ slope → slope ≤ 864 → v = .ofClass .c) ∧
    (v2 ≠ 4095 → 1472 ≤ slope → slope ≤ 1728 → v = .ofClass .d) ∧
    (v2 ≠ 4095 →
      (40 ≤ slope ∧ slope ≤ 183) ∨ (217 ≤ slope ∧ slope ≤ 367) ∨ (433 ≤ slope ∧ slope ≤ 735) ∨
        (865 ≤ slope ∧ slope ≤ 1471) ∨ (1729 ≤ slope ∧ slope ≤ 2399) → v = .ambiguous)

/-- POINT_JOB_COMPLETION of a point other than an attempt's last, the contact still mated: the code is written where
the order P1, P2, P1, P2 puts it, a P2 with its slope and verdict, and the point job that comes next in that order is placed
before the converter chooses (R2, R23 to R26, R30, R36, R37). The model's choices: log 11. -/
def Obligations.PointCodeIsWritten : Prop :=
  ∀ (n : Lane) (code : Code) (contact : Contact) (p : Point) (s : State),
    s.converter.job = some { lane := n, kind := .point p, live := true } → contact.reads = .mated →
    s.laneState n = .signature → (s.col n).ctl.record.attemptVerdict = none →
      let r := (s.col n).ctl.record
      let written : Point → SignatureRecord → State := fun p r =>
        { s.withColumn n { s.col n with ctl := { (s.col n).ctl with reading := .mated, record := r } } with
          converter := (s.converter.place (.point p) n).complete }
      let next := exec (.pointJobCompletion code contact) s
      (r.m1.v1 = none → r.m1.v2 = none → next = .next (written .p2 { r with m1 := { r.m1 with v1 := some code } })) ∧
      (∀ v1, r.m1.v1 = some v1 → r.m1.v2 = none → r.m2.v1 = none →
        let slope : Int := code.toNat - v1.toNat
        next = .next (written .p1 { r with
          m1 := { v1 := some v1, v2 := some code, slope := some slope
                  verdict := some (measurementVerdict code slope) } })) ∧
      (r.m1.v1 ≠ none → r.m1.v2 ≠ none → r.m2.v1 = none →
        next = .next (written .p2 { r with m2 := { r.m2 with v1 := some code } }))

/-- R27: with both measurements of one class an attempt is VALID at slopes at most 16 apart, its slope floor((S1 + S2) / 2)
and its resistance 25 Ω times that, and SPREAD beyond; with both SHORT it is SIGNATURE_SHORT; in every other combination it
fails with the second measurement's verdict. No point before the attempt's last sets an attempt verdict, whatever the first
measurement came to, and every failing verdict of a first or second attempt, SHORT too, is followed by a further attempt. -/
def Obligations.AttemptIsJudged : Prop :=
  (∀ (r : SignatureRecord) (a b c code : Code),
    Measurement.follows r.m1 → r.m1.v1 = some a → r.m1.v2 = some b → r.m2.v1 = some c →
      let s1 : Int := b.toNat - a.toNat
      let s2 : Int := code.toNat - c.toNat
      let v1 := measurementVerdict b s1
      let v2 := measurementVerdict code s2
      let w := r.writePoint code
      (∀ x, v1 = .ofClass x → v2 = .ofClass x → (s1 - s2).natAbs ≤ 16 →
        w.attemptVerdict = some .valid ∧ w.endValid.cls = some x ∧ w.endValid.slope = some ((s1 + s2).fdiv 2) ∧
          w.endValid.resistance = some ((s1 + s2).fdiv 2 * 25)) ∧
      (∀ x, v1 = .ofClass x → v2 = .ofClass x → 16 < (s1 - s2).natAbs → w.attemptVerdict = some .spread) ∧
      (v1 = .short → v2 = .short → w.attemptVerdict = some .signatureShort) ∧
      (¬(v1 = .short ∧ v2 = .short) → (∀ x, ¬(v1 = .ofClass x ∧ v2 = .ofClass x)) →
        w.attemptVerdict = some (.failed v2))) ∧
  (∀ (r : SignatureRecord) (code : Code), r.m1.v1 = none ∨ r.m1.v2 = none ∨ r.m2.v1 = none →
    (r.writePoint code).attemptVerdict = r.attemptVerdict) ∧
  ∀ (n : Lane) (s : State),
    let r := (s.col n).ctl.record
    (r.attemptVerdict = none → r.m1.v1 ≠ none → r.m1.v2 ≠ none → r.m2.v1 = none →
      (continueSeries n s).converter = s.converter.place (.point .p1) n ∧ (continueSeries n s).columns = s.columns) ∧
    ((r.attemptVerdict = some .spread ∨ ∃ v, r.attemptVerdict = some (.failed v)) → r.attempts < 3 →
      (continueSeries n s).converter = s.converter.place (.point .p1) n ∧
        (continueSeries n s).laneState n = s.laneState n ∧
        ((continueSeries n s).col n).ctl.record =
          { r with attempts := r.attempts + 1, m1 := Measurement.absent, m2 := Measurement.absent, attemptVerdict := none })

/-- POINT_JOB_COMPLETION of an attempt's last point with a VALID verdict: with no grant pending, AUTO powers the lane
and HELD opens the grant window with a FRESH mark; with one pending, the same class powers the lane and another opens
the grant window for reason CLASS_CHANGED; the mark is spent either way (R4, R6, R8, R27, R28, R30, R36). The model's
choices: log 11. -/
def Obligations.ValidSeriesIsActedOn : Prop :=
  ∀ (n : Lane) (code : Code) (contact : Contact) (cls : SupplyClass) (p : Point) (s : State),
    s.converter.job = some { lane := n, kind := .point p, live := true } → contact.reads = .mated →
    s.laneState n = .signature → (s.col n).supervisor.switch = .opened →
      let r := ((s.col n).ctl.record.writePoint code).endValid
      ((s.col n).ctl.record.writePoint code).attemptVerdict = some .valid → r.cls = some cls →
        let slope := r.slope.getD 0
        let judged : LaneCtl := { (s.col n).ctl with reading := .mated, record := r, grantPending := none }
        let powers : Reason → State := fun reason =>
          (toldNaming s (raise (validNotice n .powering reason cls slope) (s.withColumn n
            { s.col n with
              ctl := { judged with state := .powering }
              supervisor := { (s.col n).supervisor with
                switch := .closed, phase := .inrush, cls := some cls, inrush := .running 50 } }))).modConverter
            Converter.complete
        let awaits : Reason → State := fun reason =>
          (toldNaming s (raise (validNotice n .awaitGrant reason cls slope) (s.withColumn n
            { s.col n with
              ctl := { judged with state := .awaitGrant, grantWindow := .running 500, mark := .fresh } }))).modConverter
            Converter.complete
        let next := exec (.pointJobCompletion code contact) s
        ((s.col n).ctl.grantPending = none → s.settings.policy.get n = .auto → next = .next (powers .signatureValid)) ∧
        ((s.col n).ctl.grantPending = none → s.settings.policy.get n = .held → next = .next (awaits .signatureValid)) ∧
        ((s.col n).ctl.grantPending = some cls → next = .next (powers .signatureValid)) ∧
        (∀ other, other ≠ cls → (s.col n).ctl.grantPending = some other → next = .next (awaits .classChanged))

/-- POINT_JOB_COMPLETION of an attempt's last point with a failed verdict: a first or second attempt is followed by
another, its fields cleared and its first P1 placed; a third ends the series SIGNATURE_BAD in FAULT. SIGNATURE_SHORT ends it
in FAULT at once. Each fault clears a pending grant and reports readings of 0 (R4, R6, R16, R28, R30, R36, R52). The model's
choices: log 8, log 11. -/
def Obligations.FailedAttemptIsRetried : Prop :=
  ∀ (n : Lane) (code : Code) (contact : Contact) (p : Point) (s : State),
    s.converter.job = some { lane := n, kind := .point p, live := true } → contact.reads = .mated →
    s.laneState n = .signature →
      let r := (s.col n).ctl.record.writePoint code
      let faults : FinalVerdict → FaultCode → State := fun final fault =>
        (toldNaming s (raise (stateNotice n .fault .faulted) (raise (.laneFault n { code := fault, current := 0, voltage := 0 })
          { s.withColumn n
              { s.col n with
                ctl := { (s.col n).ctl with
                  reading := .mated, state := .fault, fault, grantPending := none, record := { r with final } } } with
            converter := s.converter.withdraw n }))).modConverter Converter.complete
      let next := exec (.pointJobCompletion code contact) s
      (r.attemptVerdict = some .signatureShort → next = .next (faults .signatureShort .signatureShort)) ∧
      (∀ v2, r.attemptVerdict = some .spread ∨ r.attemptVerdict = some (.failed v2) →
        (r.attempts < 3 →
          next = .next
            { s.withColumn n
                { s.col n with
                  ctl := { (s.col n).ctl with
                    reading := .mated
                    record := { r with
                      attempts := r.attempts + 1, m1 := Measurement.absent, m2 := Measurement.absent
                      attemptVerdict := none } } } with
              converter := (s.converter.place (.point .p1) n).complete }) ∧
        (3 ≤ r.attempts → next = .next (faults .signatureBad .signatureBad)))

/-- Completions whose result is discarded. A sample whose switch has opened since leaves all but the converter. A point of
an ended series, its contact mated, leaves all but the comparator's reading and the converter. A point whose contact reads
OPEN writes no code and does what an OPEN_EVENT does on a comparator that read MATED: from SIGNATURE the lane goes to
PARTING (R2, R4, R6, R36, R37). The model's choices: log 11. -/
def Obligations.DiscardedResultsAreNotWritten : Prop :=
  ∀ (n : Lane) (code voltage : Code) (contact : Contact) (p : Point) (live : Bool) (s x : State),
    (s.converter.job = some { lane := n, kind := .sample, live := false } →
      exec (.sampleJobCompletion code voltage) s = .next { s with converter := s.converter.complete }) ∧
    (s.converter.job = some { lane := n, kind := .point p, live := false } → contact.reads = .mated →
      exec (.pointJobCompletion code contact) s =
        .next
          { s.withColumn n { s.col n with ctl := { (s.col n).ctl with reading := .mated } } with
            converter := s.converter.complete }) ∧
    (s.converter.job = some { lane := n, kind := .point p, live } → contact.reads = .opened →
      (s.laneState n = .signature →
        exec (.pointJobCompletion code contact) s =
          .next ((toldNaming s (raise (stateNotice n .parting .opened) (s.withColumn n
            { s.col n with
              ctl := { (s.col n).ctl with
                reading := .opened, state := .parting, settle := .running s.settings.mateSettle
                grantPending := none } }))).modConverter fun c => (c.withdraw n).complete)) ∧
      (s.port.resetLow = false →
        exec (.openEvent n contact)
            { s.withColumn n { s.col n with ctl := { (s.col n).ctl with reading := .mated } } with
              converter := { s.converter with job := none } } = .next x →
          exec (.pointJobCompletion code contact) s = .next { x with converter := x.converter.complete }))

/-- R36: at a completion the converter serves the first lane in rotation after the last served with a flag set, a sample job
before a point job; it clears that flag alone, records the lane, and rests only when no flag is set. -/
def Obligations.ConverterServesInRotation : Prop :=
  ∀ (c : Converter),
    let turn : Lane → Nat := fun m => (m.number + 3 - c.lastServed.number) % 4
    (c.complete.job = none ↔ ∀ m, c.samplePending.get m = false ∧ c.pointPending.get m = none) ∧
    ∀ (j : Job), c.complete.job = some j →
      j.live = true ∧ c.complete.lastServed = j.lane ∧
      (∀ m, turn m < turn j.lane → c.samplePending.get m = false ∧ c.pointPending.get m = none) ∧
      (j.kind = .sample → c.samplePending.get j.lane = true ∧
        c.complete.samplePending = c.samplePending.set j.lane false ∧ c.complete.pointPending = c.pointPending) ∧
      (∀ p, j.kind = .point p → c.pointPending.get j.lane = some p ∧ c.samplePending.get j.lane = false ∧
        c.complete.pointPending = c.pointPending.set j.lane none ∧ c.complete.samplePending = c.samplePending)

/-! ## Plug lines and their engines (chapters 4 and 5) -/

/-- IDLE_CHECK_PASSED: the start slot begins, LDA driven low and LCK released. LINE_STUCK in WALKING and READY: the
transaction ends without a result, both wires are left released, and the lane leaves the powered states for FAULT with
code LINE_STUCK and readings of 0 (R13, R16, R56, R61, R83, R86). The model's choices: log 8, log 10, log 13. -/
def Obligations.IdleCheckEnds : Prop :=
  ∀ (n : Lane) (s : State), (s.col n).engine.phase = .idleCheck →
    exec (.idleCheckPassed n) s =
      .next (s.withColumn n
        { s.col n with engine := { (s.col n).engine with phase := .start, lck := .released, lda := .low } }) ∧
    (s.laneState n = .walking ∨ s.laneState n = .ready →
      let rested := s.withColumn n
        { s.col n with
          engine := { (s.col n).engine with
            phase := .idle, inFlight := none, rateInUse := none, stallInUse := none, lastFailed := none
            lck := .released, lda := .released } }
      exec (.lineStuck n) s = .next (toldNaming s (rested.faulted n .lineStuck 0 0)))

/-- ATTEMPT_END: the stages through which the attempt took the wires. LDA low under a released LCK in the start slot; then
for each bit of each byte, most significant first, and its acknowledge, LCK low and then released, LDA low for a 0 that the
part sends and for an ACK that it gives, a NAK after the last byte; then the stop slot, right after a missing acknowledge
where one is; each in the phase that covers it (R54, R56, R57, R59, R60, R68, R70 to R74, R77). The model's choices: log 9,
log 10. -/
def Obligations.AttemptDrivesItsSlots : Prop :=
  ∀ (n : Lane) (t : Transaction) (m : Nat) (acks : List Bool) (bytes : List Byte) (s : State),
    (s.col n).engine.phase.attempting = true → (s.col n).engine.inFlight = some t →
      let r := t.request
      let heard : Nat := match r.call with
        | .enrol => 8
        | .probe => 2
        | .peek => (r.out.getD 1 0).toNat + 1
        | .bind | .leg | .release => 0
      let k := 1 + r.out.length + heard
      let sent : Nat → Byte := fun i => (BitVec.ofNat 8 (r.handle * 8 + r.call.code) :: r.out).getD i 0
      let phase : Nat → EnginePhase := fun i =>
        if i = 0 then .header else if i ≤ r.out.length then .callOut
        else if r.call = .enrol then .arbitrate else .callIn
      let lda : Nat → Nat → Drive := fun i j =>
        if i ≤ r.out.length then (if j < 8 ∧ (sent i).getLsbD (7 - j) = false then .low else .released)
        else if j = 8 ∧ i + 1 < k then .low else .released
      let drives : Nat → State → Prop := fun whole x =>
        let d := (x.col n).engine.driven
        d.take 1 = [⟨.start, .released, .low⟩] ∧
        (∀ i < whole, ∀ j < 9,
          d[1 + 2 * (9 * i + j)]? = some ⟨phase i, .low, lda i j⟩ ∧
            d[2 + 2 * (9 * i + j)]? = some ⟨phase i, .released, lda i j⟩) ∧
        d.drop (1 + 18 * whole) = [⟨.stop, .low, .low⟩, ⟨.stop, .released, .low⟩, ⟨.stop, .released, .released⟩]
      ∃ x, exec (.attemptEnd n acks bytes) s = .next x ∧
        ((∀ i < 1 + r.out.length, acks[i]? = some true) → drives k x) ∧
        (m ≤ r.out.length → (∀ i < m, acks[i]? = some true) → acks[m]? ≠ some true → drives (m + 1) x)

/-- The slots in which an attempt of a call of k bytes can break. STALL: any bit slot, and the stop slot. COLLISION: LCK read
LOW in slot 1 alone; LDA read LOW where the part sends a 1 or gives its NAK, and in no bit that is a device's or that the part
drives low; LDA seen to change in any bit slot; LDA LOW at the end of a stop slot. The stop slot is slot 2 + 9 × k, or comes
after a byte sent that was not acknowledged (R56 to R60, R62, R68, R70 to R74, R76). The model's choices: log 3, log 9. -/
def Obligations.AttemptsBreakInTheirSlots : Prop :=
  ∀ (r : LineRequest) (slot : Nat),
    let heard : Nat := match r.call with
      | .enrol => 8
      | .probe => 2
      | .peek => (r.out.getD 1 0).toNat + 1
      | .bind | .leg | .release => 0
    let k := 1 + r.out.length + heard
    let sent : Nat → Byte := fun i => (BitVec.ofNat 8 (r.handle * 8 + r.call.code) :: r.out).getD i 0
    let inBits := 2 ≤ slot ∧ slot < 2 + 9 * k
    let atStop := slot = 2 + 9 * k ∨ ∃ i, 1 ≤ i ∧ i ≤ 1 + r.out.length ∧ slot = 2 + 9 * i
    let can : Option (List WireStage) → Prop := fun x => x.isSome = true
    r.slots.length = 2 + 9 * k ∧
    (can (r.stalled slot false) ↔ inBits) ∧ (can (r.stalled slot true) ↔ atStop) ∧
    (can (r.collided slot .clockLow) ↔ slot = 1) ∧ (can (r.collided slot .changed) ↔ inBits) ∧
    (can (r.collided slot .heldAtStop) ↔ atStop) ∧
    (can (r.collided slot .readLow) ↔
      (∃ i ≤ r.out.length, ∃ j < 8, slot = 2 + 9 * i + j ∧ (sent i).getLsbD (7 - j) = true) ∨
        (1 ≤ heard ∧ slot = 1 + 9 * k))

/-- STALL and COLLISION in a slot in which the attempt can break so: it ends there, its result handed over with the slots it
took and the stages it drove, the line error counted against the entry aimed at (DEGRADED and ROSTER at the threshold), and
the engine closes the line with both wires released; nothing else changes, a last allowed attempt's requester too having its
result only at the closing's end. In any other slot nothing (R58, R62, R63, R75, R77, R82, R126, R129). The model's choices:
log 3, log 9, log 10, log 23, log 25. -/
def Obligations.BrokenAttemptClosesLine : Prop :=
  ∀ (n : Lane) (slot : Nat) (stopping : Bool) (cause : CollisionCause) (t : Transaction) (s : State),
    (s.col n).engine.phase.attempting = true → (s.col n).engine.inFlight = some t →
      let key : EntryKey := ⟨n, t.request.target⟩
      let broken : Outcome → List WireStage → State := fun o stages =>
        s.withColumn n
          { s.col n with
            engine := { (s.col n).engine with
              phase := .closing, lastFailed := some (o, none), lck := .released, lda := .released
              handed := some { outcome := o, failedByte := none, bytesRead := none, bitTimes := slot }
              driven := stages } }
      let counted : Entry → State → State := fun e x =>
        { x with
          table := s.table.write key fun y =>
            { y with
              errors := min 255 (y.errors + 1)
              flags := { y.flags with
                degraded := y.flags.degraded || s.settings.degradeThreshold ≤ min 255 (y.errors + 1) } }
          port := { s.port with
            notices := rosterIn n 0 0
              (if s.settings.degradeThreshold ≤ min 255 (e.errors + 1) ∧ e.flags.degraded = false then 1 else 0)
              s.port.notices } }
      let ends : Outcome → Option (List WireStage) → Host.Outcome State Fault Refusal → Prop := fun o stages next =>
        (stages = none → next = .next s) ∧
        (∀ x, stages = some x →
          (s.table.find key = none → next = .next (broken o x)) ∧
          (∀ e, s.table.find key = some e → next = .next (counted e (broken o x))))
      ends .stall (t.request.stalled slot stopping) (exec (.stall n ⟨slot, stopping⟩) s) ∧
        ends .collision (t.request.collided slot cause) (exec (.collision n ⟨slot, cause⟩) s)

/-- CLOSING_STOP and CLOSING_GIVEN_UP differ in what they drive alone: a closing stop is LDA low and released under a released
LCK, one given up leaves both wires released. With attempts left the transaction begins its next idle check. With its attempts
spent its result is handed over there: a chunk's read ends LINE_ERROR, and the request that waits is granted. With no
transaction the arbiter grants what is present; of two the transfer's, unless the last grant was TRANSFER. Else the engine
rests (R63, R77, R78, R79, R81, R84, R85, R89). The model's choices: log 10, log 25. -/
def Obligations.ClosingEnds : Prop :=
  ∀ (n : Lane) (t : Transaction) (o : Outcome) (r : Read) (tag : Byte) (p q : LineRequest) (c : Instr)
    (stages : List WireStage) (s : State),
    (s.col n).engine.phase = .closing →
    (c = .closingStop n ∧
        stages = [⟨.closing, .released, .released⟩, ⟨.closing, .released, .low⟩, ⟨.closing, .released, .released⟩]) ∨
      (c = .closingGivenUp n ∧ stages = [⟨.closing, .released, .released⟩]) →
      let a := (s.col n).arbiter
      let next := exec c s
      let begun : Requester → LineRequest → LineArbiter → State := fun who r arbiter =>
        s.withColumn n
          { s.col n with engine := { (s.col n).engine.granted s.settings n who r with driven := stages }, arbiter }
      ((s.col n).engine.inFlight = some t → t.request.call ≠ .enrol →
        ¬(t.request.call = .release ∧ t.request.handle = 31) → t.attempt ≤ t.retryLimit →
          next = .next (s.withColumn n
            { s.col n with
              engine := { (s.col n).engine with
                phase := .idleCheck, inFlight := some { t with attempt := t.attempt + 1 }
                rateInUse := some (s.settings.lineRate.get n), stallInUse := some s.settings.stallLimit
                driven := stages, lck := .released, lda := .released } })) ∧
      ((s.col n).engine.inFlight = some t → t.requester = .transfer → t.request.call = .peek → t.retryLimit < t.attempt →
        (s.col n).engine.lastFailed = some (o, none) → o = .stall ∨ o = .collision → (s.col n).slot = .busy r →
        s.port.owed.get n = some tag → (s.col n).ctl.rewalkWaiting = false → a.procedure = some p → a.transfer = none →
          next = .next
            { s.withColumn n
                { s.col n with
                  slot := .free
                  engine := { (s.col n).engine.granted s.settings n .procedure p with driven := stages }
                  arbiter := { a with procedure := none, lastGrant := .procedure } } with
              port := { s.port with
                owed := s.port.owed.set n none
                replies := s.port.replies ++
                  [{ tag, code := 0x06, status := .lineError
                     payload := BitVec.ofNat 8 r.bytes.length :: r.bytes }] } }) ∧
      ((s.col n).engine.inFlight = none →
        (a.procedure = some p → a.transfer = none →
          next = .next (begun .procedure p { a with procedure := none, lastGrant := .procedure })) ∧
        (a.procedure = none → a.transfer = some q →
          next = .next (begun .transfer q { a with transfer := none, lastGrant := .transfer })) ∧
        (a.procedure = some p → a.transfer = some q → a.lastGrant = .transfer →
          next = .next (begun .procedure p { a with procedure := none, lastGrant := .procedure })) ∧
        (a.procedure = some p → a.transfer = some q → a.lastGrant ≠ .transfer →
          next = .next (begun .transfer q { a with transfer := none, lastGrant := .transfer })) ∧
        (a.procedure = none → a.transfer = none →
          next = .next (s.withColumn n
            { s.col n with
              engine := { (s.col n).engine with
                phase := .idle, rateInUse := none, stallInUse := none, lastFailed := none
                driven := stages, lck := .released, lda := .released } })))

/-- ATTEMPT_END of a failed attempt, attempts left. With an acknowledge missing the result is NO_ACK at that byte, after 2 +
9 × k bit times; a PROBE or PEEK that reaches its stop with a bad check is BAD_CHECK, with the bytes read. The line error is
counted against the handle aimed at, and the next attempt begins with the line rate and stall limit in force (R60, R67, R71,
R72, R75, R76, R78, R79, R82). A PEEK refused at its offset is the exception of R80. The model's choices: log 9, log 10,
log 23. -/
def Obligations.MissingAckIsRetried : Prop :=
  ∀ (n : Lane) (t : Transaction) (k : Nat) (acks : List Bool) (bytes : List Byte) (s : State),
    (s.col n).engine.phase.attempting = true → (s.col n).engine.inFlight = some t →
    t.request.call ≠ .enrol → ¬(t.request.call = .release ∧ t.request.handle = 31) → t.attempt ≤ t.retryLimit →
      let heard := if t.request.call = .probe then 2 else (t.request.out.getD 1 0).toNat + 1
      let retried : AttemptResult → Prop := fun result =>
        exec (.attemptEnd n acks bytes) s =
          .next (countLineError ⟨n, t.request.target⟩ (s.withColumn n
            { s.col n with
              engine := { (s.col n).engine with
                phase := .idleCheck, inFlight := some { t with attempt := t.attempt + 1 }
                rateInUse := some (s.settings.lineRate.get n), stallInUse := some s.settings.stallLimit
                lastFailed := some (result.outcome, result.failedByte), lck := .released, lda := .released
                handed := some result
                driven := (t.request.run acks bytes).stages } }))
      (k ≤ t.request.out.length → acks.take k = List.replicate k true → acks[k]? ≠ some true →
        ¬(t.request.call = .peek ∧ k = 1) →
          retried { outcome := .noAck, failedByte := some (k + 1), bytesRead := none, bitTimes := 2 + 9 * (k + 1) }) ∧
      (t.request.call = .probe ∨ t.request.call = .peek → (∀ i ≤ t.request.out.length, acks[i]? = some true) →
        bytes.length = heard → crc8 bytes.dropLast ≠ bytes.getLastD 0 →
          retried
            { outcome := .badCheck, failedByte := none, bytesRead := some bytes.dropLast
              bitTimes := 2 + 9 * (1 + t.request.out.length + heard) })

/-- R69: of the unbound devices that arbitrate, the part reads the record of the one with the smallest identity, and of two
with one identity the one with the smaller class, and the attempt ends DONE with it. The model's choices: log 18. -/
def Obligations.ArbitrationReadsSmallestRecord : Prop :=
  ∀ (ds : List Device) (d : Device), d ∈ ds →
    (∀ e ∈ ds, e.record = d.record ∨ d.identity.toNat < e.identity.toNat ∨
      (d.identity = e.identity ∧ d.cls.toNat < e.cls.toNat)) →
    arbitratedRecord ds = d.record ∧
      (enrolRequest.result [true] (arbitratedRecord ds)) =
        { outcome := .done, failedByte := none, bytesRead := some d.record, bitTimes := 83 }

/-- An undisturbed ENROL, PROBE or PEEK whose header nobody acknowledges ends NO_ACK at byte 1 after 11 bit times; a
PROBE that one device answers ends DONE with its status byte after 29; a PEEK within one device's memory ends DONE with
the bytes at its offset, those past the memory's end FFh, after 38 + 9 × n (R64, R67, R71, R72, R75, R76). The model's
choices: log 9, log 18. -/
def Obligations.UndisturbedCallsRead : Prop :=
  ∀ (ds : List Device) (d : Device) (h offset count : Nat),
    let run : LineRequest → AttemptResult := fun r => r.result (lineAnswer ds r).1 (lineAnswer ds r).2
    let noAck : AttemptResult := { outcome := .noAck, failedByte := some 1, bytesRead := none, bitTimes := 11 }
    (addressed ds enrolRequest = [] → run enrolRequest = noAck) ∧
    (addressed ds (probeRequest h) = [] → run (probeRequest h) = noAck) ∧
    (addressed ds (peekRequest h offset count) = [] → run (peekRequest h offset count) = noAck) ∧
    (addressed ds (probeRequest h) = [d] →
      run (probeRequest h) =
        { outcome := .done, failedByte := none, bytesRead := some [d.status], bitTimes := 29 }) ∧
    (addressed ds (peekRequest h offset count) = [d] →
      offset < d.memory.length → offset < 256 → 1 ≤ count → count ≤ 16 →
        run (peekRequest h offset count) =
          { outcome := .done, failedByte := none
            bytesRead := some ((List.range count).map fun i => d.memory.getD (offset + i) 0xFF)
            bitTimes := 38 + 9 * count })

/-- What a stop makes of the tool's devices. At the stop of a whole call each that sees the line and whose part is complete
takes the effect: BIND gives its handle to every unbound device of the identity, of whatever class; LEG switches the
junctions of the handle; RELEASE powers the addressed devices up; ENROL, PROBE and PEEK change none. An attempt broken off: the
part's release of LDA under an LCK that reads HIGH is a stop, on which all go idle, the complete ones after the last
acknowledge taking the effect; where the part or a device holds LCK low, or a device holds LDA low, the release makes none.
Out of a stop slot: a stop already made has acted; one that comes when a device lets LDA go acts; after a stall none is made
and the closing stop leaves all idle and unchanged, as it does whatever they were at (R54, R57, R59, R63, R65, R66, R68, R70 to
R74). The model's choices: log 18, log 26. -/
def Obligations.StopsActOnCompleteDevices : Prop :=
  ∀ (ds : List Device) (identity : Identity) (h slot : Nat) (byte : Byte) (r : LineRequest) (x : WireStage)
    (held : DeviceDrives) (xs : List Situated), 1 ≤ h → h ≤ 30 → byte.toNat ≤ 3 →
      let eachSeen : (Device → Device) → List Device := fun f =>
        (ds.zip (visible ds)).map fun p => if p.2 = true then f p.1 else p.1
      let dropped : Device → Device := fun d => { d with handle := none, legA := false, legB := false }
      let idle : List Device → List Situated := fun ds => ds.map fun d => { device := d, standing := .idle }
      let free : DeviceDrives := { lck := .released, lda := .released }
      let holdsLck : DeviceDrives := { lck := .low, lda := .released }
      let holdsLda : DeviceDrives := { lck := .released, lda := .low }
      let released : WireStage := ⟨.closing, .released, .released⟩
      let atStop := 2 + 9 * r.bytes
      afterStop ds (bindRequest identity h) =
        eachSeen (fun d => if d.handle = none ∧ d.identity = identity then { d with handle := some h } else d) ∧
      afterStop ds (releaseRequest 31) = eachSeen (fun d => if d.handle = none then d else dropped d) ∧
      afterStop ds (releaseRequest h) = eachSeen (fun d => if d.handle = some h then dropped d else d) ∧
      afterStop ds (legRequest h byte) =
        eachSeen (fun d =>
          if d.handle = some h ∧ d.cls = 1 then { d with legA := byte.getLsbD 0, legB := byte.getLsbD 1 } else d) ∧
      (r.call = .enrol ∨ r.call = .probe ∨ r.call = .peek → afterStop ds r = ds) ∧
      (x.lck = .released → x.lda = .low →
        (slot + 1 < atStop → afterBreak ds r slot [(x, free), (released, free)] = idle ds) ∧
        (slot + 1 = atStop ∨ slot = atStop → afterBreak ds r slot [(x, free), (released, free)] = idle (afterStop ds r))) ∧
      (x.lck = .low ∨ x.lda = .released ∨ held.lck = .low ∨ held.lda = .low →
        (afterBreak ds r slot [(x, held), (released, held)]).map Situated.device = ds) ∧
      afterBreak ds r atStop
          [(⟨.stop, .low, .low⟩, free), (⟨.stop, .released, .low⟩, free), (⟨.stop, .released, .released⟩, free),
            (released, free)] = idle (afterStop ds r) ∧
      afterBreak ds r atStop
          [(⟨.stop, .low, .low⟩, free), (⟨.stop, .released, .low⟩, free), (⟨.stop, .released, .released⟩, holdsLda),
            (released, holdsLda), (released, free)] = idle (afterStop ds r) ∧
      afterBreak ds r atStop
          ([(⟨.stop, .low, .low⟩, free), (⟨.stop, .released, .low⟩, holdsLck), (released, holdsLck)] ++
            closingStopStages.map fun y => (y, free)) = idle ds ∧
      seeWires r (closingStopStages.map fun y => y.levels free) xs =
        (xs.zip (visible (xs.map Situated.device))).map fun p => if p.2 = true then { p.1 with standing := .idle } else p.1

/-! ## Discovery walk and device table (chapters 6 and 7) -/

/-- The opening RELEASE ends acknowledged, or unanswered at its header: the lane's PRESENT and LOST entries turn AWAY in
handle order and are counted in ROSTER changed, and the first round's ENROL is granted. Disturbed, at its closing's end, the
closing stop made or given up: another RELEASE while the count of them is not above the retry limit; else LINE_FAULT is noted,
the entries turn AWAY, and the walk, with no junction left PRESENT, ends (R78, R79, R84, R93 to R95, R106 to R108, R119, R120). The model's choices: log 9, log 10,
log 14, log 23, log 25. -/
def Obligations.OpeningReleaseTurnsAway : Prop :=
  ∀ (n : Lane) (t : Transaction) (o : Outcome) (acks : List Bool) (bytes : List Byte) (c : Instr) (stages : List WireStage)
    (s : State),
    (s.col n).engine.inFlight = some t → t.request = releaseRequest 31 → t.requester = .procedure → 1 ≤ t.attempt →
    (s.col n).walk.phase = .releasing →
    (s.col n).arbiter = { procedure := none, transfer := none, lastGrant := .procedure } →
      let w := (s.col n).walk
      let away : State :=
        { s with
          table :=
            { entries := s.table.entries.map fun e =>
                if e.key.lane = n ∧ e.state ≠ .away then
                  { e with state := .away, name := none, slotRef := none, miss := 0 }
                else e
              away := s.table.away ++ ((s.table.ofLane n).filter fun e => e.state != .away).map (·.key) }
          port := { s.port with
            notices := rosterIn n 0 0 ((s.table.ofLane n).filter fun e => e.state != .away).length s.port.notices } }
      ((s.col n).engine.phase.attempting = true → s.table.find ⟨n, 31⟩ = none →
        exec (.attemptEnd n acks bytes) s =
          .next (away.withColumn n
            { s.col n with
              walk := { w with
                phase := .rounds, failedInRow := 0
                record := { w.record with rounds := min 65535 (w.record.rounds + 1) } }
              engine := (s.col n).engine.goesOn
                (if acks.headD false = true then
                  { outcome := .done, failedByte := none, bytesRead := none, bitTimes := 11 }
                else { outcome := .noAck, failedByte := some 1, bytesRead := none, bitTimes := 11 })
                (t.request.run acks bytes).stages s.settings n .procedure enrolRequest })) ∧
      ((s.col n).engine.phase = .closing → endsClosing c n stages →
        (s.col n).engine.lastFailed = some (o, none) → o = .stall ∨ o = .collision →
        (w.releases + 1 ≤ s.settings.retryLimit →
          exec c s =
            .next (s.withColumn n
              { s.col n with
                walk := { w with releases := w.releases + 1 }
                engine := { (s.col n).engine.granted s.settings n .procedure (releaseRequest 31) with
                  driven := stages } })) ∧
        (s.settings.retryLimit < w.releases + 1 → s.laneState n = .walking →
          exec c s =
            .next (State.walkEnded
              (away.withColumn n
                { s.col n with
                  walk := { w with
                    releases := w.releases + 1, record := { w.record with reasons := { w.record.reasons with lineFault := true } } }
                  engine := { (s.col n).engine with
                    phase := .idle, inFlight := none, rateInUse := none, stallInUse := none, lastFailed := none
                    driven := stages, lck := .released, lda := .released } }) n)))

/-- BIND ends DONE: a NEW record's entry is written PRESENT where the walk stands, with counts 0, no name and JUNCTION for
class 01h; a REFOUND one's leaves the away list and is PRESENT there, its class and JUNCTION the record's, DEPTH_LIMIT and
LEG_FAILED clear, its DEGRADED flag, line error count and status byte kept. The walk counts it, adds a junction to the
segment's list, clears the binding and places the next round's ENROL. A BIND that has failed at its attempts' end, at a
missing acknowledge or at the closing after STALL or COLLISION, is followed by a RELEASE to the handle, the binding kept, the
missing acknowledge counted against the handle's entry (R75, R78, R79, R82, R84, R91, R95, R98, R99, R118, R120). The model's
choices: log 9, log 10, log 14, log 23, log 25. -/
def Obligations.BindWritesEntry : Prop :=
  ∀ (n : Lane) (t : Transaction) (b : PendingBinding) (k : Nat) (acks : List Bool) (bytes : List Byte) (c : Instr)
    (stages : List WireStage) (s : State), (s.col n).engine.inFlight = some t →
    t.request = bindRequest b.identity b.handle → t.requester = .procedure →
    (s.col n).walk.phase = .binding → (s.col n).walk.binding = some b →
    (s.col n).arbiter = { procedure := none, transfer := none, lastGrant := .procedure } →
      let w := (s.col n).walk
      let next := exec (.attemptEnd n (List.replicate 8 true) bytes) s
      let parent := ((w.stack.head?).map Frame.junction).getD 0
      let leg := (w.stack.head?).map Frame.leg
      let listed : JunctionList → JunctionList := fun l =>
        if b.cls = 1 then { l with handles := insertHandle b.handle l.handles } else l
      let explored : WalkUnit :=
        match w.stack with
        | [] => { w with root := listed w.root }
        | f :: fs => { w with stack := { f with list := listed f.list } :: fs }
      let bound : Nat → Nat → DeviceTable → State := fun added refound table =>
        { s.withColumn n
            { s.col n with
              walk := { explored with
                phase := .rounds, binding := none, failedInRow := 0
                record := { w.record with
                  added := w.record.added + added, refound := w.record.refound + refound
                  rounds := min 65535 (w.record.rounds + 1) } }
              engine := (s.col n).engine.goesOn
                { outcome := .done, failedByte := none, bytesRead := none, bitTimes := 74 }
                (t.request.run (List.replicate 8 true) bytes).stages s.settings n .procedure enrolRequest } with
          table }
      ((s.col n).engine.phase.attempting = true → b.kind = .new →
        next = .next (bound 1 0
          { s.table with
            entries := insertEntry
              { key := ⟨n, b.handle⟩, identity := b.identity, cls := b.cls, state := .present
                depth := w.stack.length, parent, leg
                flags := { junction := b.cls == 1, depthLimit := false, legFailed := false, degraded := false }
                miss := 0, errors := 0, status := none, name := none, slotRef := none }
              s.table.entries })) ∧
      ((s.col n).engine.phase.attempting = true → b.kind = .refound →
        next = .next (bound 0 1
          { entries := s.table.entries.map fun e =>
              if e.key = ⟨n, b.handle⟩ then
                { e with
                  cls := b.cls, state := .present, depth := w.stack.length, parent, leg
                  flags := { junction := b.cls == 1, depthLimit := false, legFailed := false, degraded := e.flags.degraded }
                  miss := 0, name := none, slotRef := none }
              else e
            away := s.table.away.filter fun k => k != ⟨n, b.handle⟩ })) ∧
      (t.retryLimit < t.attempt → b.handle ≤ 30 →
        ((s.col n).engine.phase.attempting = true → k ≤ 7 → (∀ i < k, acks[i]? = some true) → acks[k]? ≠ some true →
          let failed : AttemptResult :=
            { outcome := .noAck, failedByte := some (k + 1), bytesRead := none, bitTimes := 2 + 9 * (k + 1) }
          exec (.attemptEnd n acks bytes) s =
            .next (((countLineError ⟨n, b.handle⟩ s).handed n failed (t.request.run acks bytes).stages).walkAsks n w
              (releaseRequest b.handle))) ∧
        ((s.col n).engine.phase = .closing → endsClosing c n stages →
          exec c s = .next ((s.closed n stages).walkAsks n w (releaseRequest b.handle))))

/-- A winning round. An identity whose entry is AWAY is bound again to that entry's handle; one whose entry is PRESENT makes
the round a failed one. A new identity takes the lowest free handle of the lane, or with none that of the lane's earliest
AWAY entry not held, which is evicted; with no entry slot free the earliest AWAY entry of any lane not held is evicted,
counted in its own lane's ROSTER removed. With nothing to evict HANDLES_EXHAUSTED or TABLE_FULL is noted and the walk stops
(R96 to R100, R106, R107, R116, R121 to R124, R129). The model's choices: log 9, log 10, log 14, log 23. -/
def Obligations.WinningRoundChoosesHandle : Prop :=
  ∀ (n : Lane) (t : Transaction) (record : List Byte) (e : Entry) (k : EntryKey) (ahead behind : List EntryKey) (h : Nat)
    (s : State),
    (s.col n).engine.phase.attempting = true → (s.col n).engine.inFlight = some t →
    t.request = enrolRequest → t.requester = .procedure → (s.col n).walk.phase = .rounds → s.laneState n = .walking →
    (s.col n).arbiter = { procedure := none, transfer := none, lastGrant := .procedure } →
    record.length = 8 → crc8 (record.take 7) = record.getLastD 0 →
    TableInv s → (s.col n).walk.binding = none →
      let w := (s.col n).walk
      let identity := identityOf record
      let result : AttemptResult := { outcome := .done, failedByte := none, bytesRead := some record, bitTimes := 83 }
      let stages := (t.request.run [true] record).stages
      let asks : LineRequest → WalkUnit → State → State := fun r w x =>
        x.withColumn n
          { s.col n with walk := w, engine := (s.col n).engine.goesOn result stages s.settings n .procedure r }
      let binds : Nat → BindingKind → State → State := fun h kind x =>
        asks (bindRequest identity h)
          { w with phase := .binding, binding := some { identity, cls := record.getD 6 0, handle := h, kind } } x
      let evicted : State :=
        { s with
          table :=
            { entries := s.table.entries.filter fun e => e.key != k
              away := s.table.away.filter fun x => x != k }
          port := { s.port with notices := rosterIn k.lane 0 1 0 s.port.notices } }
      let heldKey : EntryKey → Prop := fun x =>
        ∃ b, (s.col x.lane).walk.binding = some b ∧ b.kind = .refound ∧ b.handle = x.handle
      let earliest : (EntryKey → Prop) → Prop := fun among =>
        s.table.away = ahead ++ k :: behind ∧ among k ∧ ¬heldKey k ∧ ∀ x ∈ ahead, among x → heldKey x
      let noted : WalkReasons → WalkUnit := fun reasons =>
        { w with
          phase := .finishing, stack := [], root := JunctionList.empty
          record := { w.record with reasons := reasons } }
      let stops : WalkReasons → Prop := fun reasons =>
        (∀ x, s.opensNext n none x →
          exec (.attemptEnd n [true] record) s = .next (asks (legRequest x.key.handle 0x03) (noted reasons) s)) ∧
        (s.opensNone n none →
          exec (.attemptEnd n [true] record) s =
            .next (State.walkEnded (s.withColumn n
              { s.col n with walk := noted reasons, engine := (s.col n).engine.atRest result stages }) n))
      let next := exec (.attemptEnd n [true] record) s
      let slots := s.table.entries.length + s.reservedElsewhere n
      let unknown := ∀ x ∈ s.table.ofLane n, x.identity ≠ identity
      let lowest := 1 ≤ h ∧ h ≤ 30 ∧ (∀ x ∈ s.table.ofLane n, x.key.handle ≠ h) ∧
        ∀ i < h, 1 ≤ i → ∃ x ∈ s.table.ofLane n, x.key.handle = i
      let allHeld := ∀ i, 1 ≤ i → i ≤ 30 → ∃ x ∈ s.table.ofLane n, x.key.handle = i
      (e ∈ s.table.ofLane n → e.identity = identity →
        (e.state = .away → next = .next (binds e.key.handle .refound s)) ∧
        (e.state = .present → w.failedInRow + 1 ≤ s.settings.retryLimit →
          next = .next (asks enrolRequest
            { w with
              failedInRow := w.failedInRow + 1
              record := { w.record with
                failedRounds := min 65535 (w.record.failedRounds + 1), rounds := min 65535 (w.record.rounds + 1) } } s))) ∧
      (unknown → lowest → slots < 48 → next = .next (binds h .new s)) ∧
      (unknown → lowest → 48 ≤ slots → earliest (fun _ => True) → next = .next (binds h .new evicted)) ∧
      (unknown → lowest → 48 ≤ slots → (∀ x ∈ s.table.away, heldKey x) → stops { w.record.reasons with tableFull := true }) ∧
      (unknown → allHeld → earliest (fun x => x.lane = n) → next = .next (binds k.handle .new evicted)) ∧
      (unknown → allHeld → (∀ x ∈ s.table.away, x.lane = n → heldKey x) →
        stops { w.record.reasons with handlesExhausted := true })

/-- A failed round (an ENROL ending BAD_CHECK, STALL or COLLISION, a winner already bound, a RELEASE after a failed BIND at
its end) clears the binding and is counted; a count of them in a row not above the retry limit places the next ENROL, one above
it notes ENROL_FAILED and ends the segment's rounds, as a round that nobody answers does. Then, below two frames, the segment's
next junction is taken, its frame for leg A pushed and LEG 01h granted; at two frames every junction left is flagged DEPTH_LIMIT
and passed; with none left the top frame turns from leg A to B with LEG 02h, or its junction is closed with LEG 00h; at the root
a failed round then begins the walk's end (R85, R91, R95, R96, R99 to R103, R106 to R108). The model's choices: log 9, log 10,
log 14, log 23, log 25. -/
def Obligations.UnansweredRoundTakesJunctions : Prop :=
  ∀ (n : Lane) (t : Transaction) (acks : List Bool) (bytes : List Byte) (j : Nat) (rest : List Nat) (f : Frame)
    (fs : List Frame) (c : Instr) (failed s : State),
    (s.col n).engine.inFlight = some t → t.requester = .procedure → 1 ≤ t.attempt → s.table.find ⟨n, 0⟩ = none →
    (s.col n).arbiter = { procedure := none, transfer := none, lastGrant := .procedure } →
      let fresh : Frame := { junction := j, leg := .a, list := JunctionList.empty }
      let taken : State → WalkUnit → Host.Outcome State Fault Refusal → Prop := fun x w next =>
        let asks : LineRequest → WalkUnit → State → State := fun r v y => y.walkAsks n { v with phase := .junctions } r
        (w.stack = [] → w.root.handles.drop w.root.taken = j :: rest →
          next = .next (asks (legRequest j 0x01)
            { w with root := { w.root with taken := w.root.taken + 1 }, stack := [fresh] } x)) ∧
        (w.stack = [f] → f.list.handles.drop f.list.taken = j :: rest →
          next = .next (asks (legRequest j 0x01)
            { w with stack := [fresh, { f with list := { f.list with taken := f.list.taken + 1 } }] } x)) ∧
        (w.stack = f :: fs → f.list.handles.drop f.list.taken = [] →
          (f.leg = .a →
            next = .next (asks (legRequest f.junction 0x02)
              { w with stack := { f with leg := .b, list := JunctionList.empty } :: fs } x)) ∧
          (f.leg = .b → next = .next (asks (legRequest f.junction 0x00) w x))) ∧
        (w.stack = f :: fs → fs ≠ [] → f.list.handles.drop f.list.taken = j :: rest →
          let passed : State :=
            { x with
              table := { x.table with
                entries := x.table.entries.map fun e =>
                  if e.key.lane = n ∧ e.key.handle ∈ j :: rest then
                    { e with flags := { e.flags with depthLimit := true } }
                  else e } }
          let record := { w.record with reasons := { w.record.reasons with depthLimit := true } }
          (f.leg = .a →
            next = .next (asks (legRequest f.junction 0x02)
              { w with record, stack := { f with leg := .b, list := JunctionList.empty } :: fs } passed)) ∧
          (f.leg = .b →
            next = .next (asks (legRequest f.junction 0x00)
              { w with record, stack := { f with list := { f.list with taken := f.list.handles.length } } :: fs } passed)))
      ((s.col n).engine.phase.attempting = true → t.request = enrolRequest → acks.headD false = false →
        (s.col n).walk.phase = .rounds →
          taken
            (s.handed n { outcome := .noAck, failedByte := some 1, bytesRead := none, bitTimes := 11 }
              (t.request.run acks bytes).stages)
            (s.col n).walk (exec (.attemptEnd n acks bytes) s)) ∧
      (TableInv s → RoundFails s n t c failed →
        let w := (s.col n).walk.failedOnce
        (w.failedInRow ≤ s.settings.retryLimit →
          exec c s =
            .next (failed.walkAsks n
              { w with phase := .rounds, record := { w.record with rounds := min 65535 (w.record.rounds + 1) } }
              enrolRequest)) ∧
        (s.settings.retryLimit < w.failedInRow →
          let left : WalkUnit :=
            { w with record := { w.record with reasons := { w.record.reasons with enrolFailed := true } } }
          let ending : WalkUnit := { left with phase := .finishing, stack := [], root := JunctionList.empty }
          taken failed left (exec c s) ∧
          (w.stack = [] → w.root.handles.drop w.root.taken = [] →
            (∀ e, failed.opensNext n none e → exec c s = .next (failed.walkAsks n ending (legRequest e.key.handle 0x03))) ∧
            (failed.opensNone n none → s.laneState n = .walking →
              exec c s =
                .next (State.walkEnded (failed.withColumn n
                  { failed.col n with
                    walk := ending
                    engine := { (failed.col n).engine with
                      phase := .idle, inFlight := none, rateInUse := none, stallInUse := none, lastFailed := none
                      lck := .released, lda := .released } }) n)))))

/-- The ends of the LEG calls that explore a junction. LEG 01h or 02h DONE: the segment beyond has its rounds, the count of
failed rounds in a row 0. LEG 00h DONE: the frame is popped and the segment above goes on: its next junction, its own frame's
next step, or at the root the walk's end. FAILED, its attempts spent, at a missing acknowledge (counted) or at the closing's end
after STALL or COLLISION: LEG_FAILED on the junction's entry and noted; 01h goes on with 02h, 02h with 00h, and 00h stops the
walk, stack and lists emptied (R63, R79, R82, R85, R95, R101, R102, R104 to R107). The model's choices: log 9, log 10, log 14,
log 23, log 25. -/
def Obligations.LegEndsMoveTheWalk : Prop :=
  ∀ (n : Lane) (t : Transaction) (h i : Nat) (byte : Byte) (acks : List Bool) (bytes : List Byte) (j : Nat)
    (rest : List Nat) (f g : Frame) (fs : List Frame) (c : Instr) (stages : List WireStage) (s : State),
    (s.col n).engine.inFlight = some t → t.request = legRequest h byte → t.requester = .procedure →
    (s.col n).walk.phase = .junctions → s.laneState n = .walking → TableInv s →
    (s.col n).arbiter = { procedure := none, transfer := none, lastGrant := .procedure } →
      let w := (s.col n).walk
      let fresh : Frame := { junction := j, leg := .a, list := JunctionList.empty }
      let finishes : State → WalkUnit → Host.Outcome State Fault Refusal → Prop := fun x w next =>
        x.opensOrEnds n none { w with phase := .finishing, stack := [], root := JunctionList.empty, binding := none } next
      let failed : State → Host.Outcome State Fault Refusal → Prop := fun x next =>
        let flagged := x.legFlagged n h
        let v := (flagged.col n).walk
        (byte = 0x01 → w.stack = f :: fs →
          next = .next (flagged.walkAsks n { v with stack := { f with leg := .b, list := JunctionList.empty } :: fs }
            (legRequest h 0x02))) ∧
        (byte = 0x02 → next = .next (flagged.walkAsks n v (legRequest h 0x00))) ∧
        (byte = 0x00 → finishes flagged v next)
      ((s.col n).engine.phase.attempting = true → acks = [true, true] →
        let next := exec (.attemptEnd n acks bytes) s
        let done := s.handed n { outcome := .done, failedByte := none, bytesRead := none, bitTimes := 20 }
          (t.request.run acks bytes).stages
        (byte = 0x01 ∨ byte = 0x02 →
          next = .next (done.walkAsks n
            { w with
              phase := .rounds, failedInRow := 0
              record := { w.record with rounds := min 65535 (w.record.rounds + 1) } } enrolRequest)) ∧
        (byte = 0x00 → w.stack = [f] →
          (w.root.handles.drop w.root.taken = j :: rest →
            next = .next (done.walkAsks n
              { w with stack := [fresh], root := { w.root with taken := w.root.taken + 1 } } (legRequest j 0x01))) ∧
          (w.root.handles.drop w.root.taken = [] → finishes done w next)) ∧
        (byte = 0x00 → w.stack = [f, g] →
          (g.list.handles.drop g.list.taken = j :: rest →
            next = .next (done.walkAsks n
              { w with stack := [fresh, { g with list := { g.list with taken := g.list.taken + 1 } }] }
              (legRequest j 0x01))) ∧
          (g.list.handles.drop g.list.taken = [] → g.leg = .a →
            next = .next (done.walkAsks n { w with stack := [{ g with leg := .b, list := JunctionList.empty }] }
              (legRequest g.junction 0x02))) ∧
          (g.list.handles.drop g.list.taken = [] → g.leg = .b →
            next = .next (done.walkAsks n { w with stack := [g] } (legRequest g.junction 0x00))))) ∧
      ((s.col n).engine.phase.attempting = true → i ≤ 1 → (∀ m < i, acks[m]? = some true) → acks[i]? ≠ some true →
        t.retryLimit < t.attempt →
          failed
            ((countLineError ⟨n, h⟩ s).handed n
              { outcome := .noAck, failedByte := some (i + 1), bytesRead := none, bitTimes := 2 + 9 * (i + 1) }
              (t.request.run acks bytes).stages)
            (exec (.attemptEnd n acks bytes) s)) ∧
      ((s.col n).engine.phase = .closing → endsClosing c n stages → t.retryLimit < t.attempt →
        failed (s.closed n stages) (exec c s))

/-- FINISHING: the legs of the PRESENT junctions at depth 0 and 1 without DEPTH_LIMIT and LEG_FAILED are opened by LEG 03h, by
depth and handle: the first when a round at the root goes unanswered with no junction left there, the next after each LEG, one
that has failed at its attempts' end, at a missing acknowledge (counted) or at the closing's end after STALL or COLLISION, being
flagged LEG_FAILED and noted. With none left the walk ends: AWAY entries go, the record closes COMPLETE or INCOMPLETE, ROSTER
tells what it added, refound and removed, and the lane enters READY with the roll-call period started (R11, R63, R79, R82, R95,
R101, R106 to R110, R124, R129, R133). The model's choices: log 8, log 9, log 10, log 23, log 25. -/
def Obligations.WalkEndOpensLegs : Prop :=
  ∀ (n : Lane) (t : Transaction) (d : Entry) (i : Nat) (acks : List Bool) (bytes : List Byte) (c : Instr)
    (stages : List WireStage) (s : State),
    (s.col n).engine.inFlight = some t → t.requester = .procedure → 1 ≤ t.attempt → s.laneState n = .walking → TableInv s →
    (s.col n).arbiter = { procedure := none, transfer := none, lastGrant := .procedure } →
      let w := (s.col n).walk
      let next := exec (.attemptEnd n acks bytes) s
      let handed : AttemptResult → State → State := fun result x => x.handed n result (t.request.run acks bytes).stages
      let failed : State → Host.Outcome State Fault Refusal → Prop := fun x next =>
        let flagged := x.legFlagged n d.key.handle
        flagged.opensOrEnds n (some d) (flagged.col n).walk next
      ((s.col n).engine.phase.attempting = true → t.request = enrolRequest → acks.headD false = false →
        w.phase = .rounds → w.stack = [] → w.root.handles.drop w.root.taken = [] →
          (handed { outcome := .noAck, failedByte := some 1, bytesRead := none, bitTimes := 11 } s).opensOrEnds n none
            { w with phase := .finishing, stack := [], root := JunctionList.empty, binding := none } next) ∧
      (t.request = legRequest d.key.handle 0x03 → w.phase = .finishing → d ∈ s.table.entries → d.key.lane = n →
        ((s.col n).engine.phase.attempting = true → acks = [true, true] →
          (handed { outcome := .done, failedByte := none, bytesRead := none, bitTimes := 20 } s).opensOrEnds n (some d) w
            next) ∧
        ((s.col n).engine.phase.attempting = true → i ≤ 1 → (∀ m < i, acks[m]? = some true) → acks[i]? ≠ some true →
          t.retryLimit < t.attempt →
            failed
              (handed { outcome := .noAck, failedByte := some (i + 1), bytesRead := none, bitTimes := 2 + 9 * (i + 1) }
                (countLineError d.key s))
              next) ∧
        ((s.col n).engine.phase = .closing → endsClosing c n stages → t.retryLimit < t.attempt →
          failed (s.closed n stages) (exec c s)))

/-! ## Roll call and device memory reads (chapters 5 and 8) -/

/-- ROLL_CALL_PERIOD_EXPIRY restarts the timer with the period in force. WAITING places the sweep's ENROL while the sweep is
on and the used count below its budget; else the first PROBE, to the lowest handle of a PRESENT or LOST entry; else it rests.
What it places is granted at once on an idle engine and waits otherwise. SWEEPING and PROBING, their own call in flight or
waiting, defer the period (R78, R84, R134, R135, R137). -/
def Obligations.RollCallPeriodExpires : Prop :=
  ∀ (n : Lane) (e : Entry) (s : State), (s.col n).roll.period.isRunning = true →
      let a := (s.col n).arbiter
      let restarted : RollCall := { (s.col n).roll with period := .running s.settings.rollCallPeriod }
      let next := exec (.rollCallPeriodExpiry n) s
      let sweeps := s.settings.sweep = true ∧ (s.col n).roll.used < s.settings.sweepBudget
      let busy := (s.col n).engine.phase ≠ .idle
      let asks : RollCall → LineRequest → Prop := fun roll r =>
        (busy → next = .next (s.withColumn n { s.col n with roll, arbiter := { a with procedure := some r } })) ∧
        (¬busy → a.transfer = none →
          next = .next (s.withColumn n
            { s.col n with
              roll
              engine := (s.col n).engine.granted s.settings n .procedure r
              arbiter := { procedure := none, transfer := none, lastGrant := .procedure } }))
      ((s.col n).roll.phase = .waiting → sweeps →
        asks { restarted with phase := .sweeping, position := none } enrolRequest) ∧
      ((s.col n).roll.phase = .waiting → ¬sweeps → (s.col n).roll.position = none → TableInv s →
        e ∈ s.table.ofLane n → e.state ≠ .away →
        (∀ x ∈ s.table.ofLane n, x.state ≠ .away → e.key.handle ≤ x.key.handle) →
          asks { restarted with phase := .probing, position := some e.key.handle } (probeRequest e.key.handle)) ∧
      ((s.col n).roll.phase = .waiting → ¬sweeps → (∀ e ∈ s.table.ofLane n, e.state = .away) →
        busy ∨ (a.procedure = none ∧ a.transfer = none) →
          next = .next (s.withColumn n { s.col n with roll := { restarted with phase := .waiting, position := none } })) ∧
      ((s.col n).roll.phase = .sweeping ∨ (s.col n).roll.phase = .probing →
        busy ∨ (a.procedure = none ∧ a.transfer = none) →
          next = .next (s.withColumn n { s.col n with roll := { restarted with deferred := true } }))

/-- The sweep's end. Acknowledged, its check good or bad, it is an answer: the used count grows, the period stops, the work
ends, and with no read in flight the lane is walked again for SWEEP_ANSWER; with one the unit is HALTED, the re-walk waits and
the read's next chunk is granted. Unacknowledged, or disturbed (at its closing's end, the closing stop made or given up), it is
none: the first PROBE is placed; with no PRESENT or LOST entry the unit rests, or with a period deferred starts that period's
sweep, or rests where no sweep is to be made (R10, R11, R12, R63, R79, R84, R85, R92, R133 to R137). The model's choices: log 9,
log 10, log 23, log 25. -/
def Obligations.SweepIsJudged : Prop :=
  ∀ (n : Lane) (t : Transaction) (r : Read) (q : LineRequest) (record : List Byte) (acks : List Bool) (e : Entry)
    (o : Outcome) (c : Instr) (closing : List WireStage) (s : State),
    (s.col n).engine.inFlight = some t → t.request = enrolRequest → t.requester = .procedure → 1 ≤ t.attempt →
    (s.col n).walk.phase = .idle → (s.col n).roll.phase = .sweeping → TableInv s → (s.col n).arbiter.procedure = none →
      let a := (s.col n).arbiter
      let roll := (s.col n).roll
      let used := roll.used + 1
      let result : AttemptResult :=
        { outcome := if crc8 (record.take 7) = record.getLastD 0 then .done else .badCheck
          failedByte := none, bytesRead := some record, bitTimes := 83 }
      let next := exec (.attemptEnd n (true :: acks) record) s
      let stages := (t.request.run (true :: acks) record).stages
      let probes : Engine → Host.Outcome State Fault Refusal → Prop := fun engine next =>
        let rested : Engine := { engine with
          phase := .idle, inFlight := none, rateInUse := none, stallInUse := none, lastFailed := none
          lck := .released, lda := .released }
        (e ∈ s.table.ofLane n → e.state ≠ .away →
          (∀ x ∈ s.table.ofLane n, x.state ≠ .away → e.key.handle ≤ x.key.handle) →
          let placed : Column :=
            { s.col n with roll := { roll with phase := .probing, position := some e.key.handle } }
          (a.transfer = none →
            next = .next (s.withColumn n
              { placed with
                engine := engine.granted s.settings n .procedure (probeRequest e.key.handle)
                arbiter := { a with lastGrant := .procedure } })) ∧
          (a.transfer = some q → a.lastGrant ≠ .transfer →
            next = .next (s.withColumn n
              { placed with
                engine := engine.granted s.settings n .transfer q
                arbiter := { procedure := some (probeRequest e.key.handle), transfer := none, lastGrant := .transfer } }))) ∧
        ((∀ x ∈ s.table.ofLane n, x.state = .away) → a.transfer = none → roll.deferred = false →
          next = .next (s.withColumn n
            { s.col n with roll := { roll with phase := .waiting, position := none }, engine := rested })) ∧
        ((∀ x ∈ s.table.ofLane n, x.state = .away) → a.transfer = none → roll.deferred = true →
          (s.settings.sweep = true ∧ roll.used < s.settings.sweepBudget →
            next = .next (s.withColumn n
              { s.col n with
                roll := { roll with phase := .sweeping, deferred := false, position := none }
                engine := engine.granted s.settings n .procedure enrolRequest
                arbiter := { a with lastGrant := .procedure } })) ∧
          (s.settings.sweep = false ∨ s.settings.sweepBudget ≤ roll.used →
            next = .next (s.withColumn n
              { s.col n with
                roll := { roll with phase := .waiting, deferred := false, position := none }, engine := rested })))
      ((s.col n).engine.phase.attempting = true → record.length = 8 →
        ((s.col n).slot = .free → a.transfer = none →
          next = .next (toldNaming s (raise (stateNotice n .walking .sweepAnswer) (s.withColumn n
            ((s.col n).rewalked used
              ((s.col n).engine.goesOn result stages s.settings n .procedure (releaseRequest 31))))))) ∧
        ((s.col n).slot = .busy r → a.transfer = some q →
          next = .next (s.withColumn n
            { s.col n with
              ctl := { (s.col n).ctl with rewalkWaiting := true }
              roll := { phase := .halted, period := .stopped, deferred := false, position := none, used }
              engine := (s.col n).engine.goesOn result stages s.settings n .transfer q
              arbiter := { procedure := none, transfer := none, lastGrant := .transfer } }))) ∧
      ((s.col n).engine.phase.attempting = true → acks.headD false = false →
        probes { (s.col n).engine with
          handed := some { outcome := .noAck, failedByte := some 1, bytesRead := none, bitTimes := 11 }
          driven := (t.request.run acks record).stages } (exec (.attemptEnd n acks record) s)) ∧
      ((s.col n).engine.phase = .closing → endsClosing c n closing →
        (s.col n).engine.lastFailed = some (o, none) → o = .stall ∨ o = .collision →
          probes { (s.col n).engine with driven := closing } (exec c s))

/-- A PROBE's end. DONE: the status byte is stored, the miss count is 0, a LOST entry is PRESENT again. FAILED, its attempts
spent, at a missing acknowledge or a bad check (the line error counted) or at the closing's end after STALL or COLLISION
(counted before it): the miss count grows, saturating at the loss count, where a PRESENT entry becomes LOST. A change between
them counts in ROSTER changed. The next handle's PROBE is placed, a chunk that waits granted before it if the last grant was not
TRANSFER; after the last handle the unit rests, or starts a deferred period's sweep (R63, R67, R71, R75, R76, R79, R82, R84, R85,
R129, R134, R135, R137, R138). The model's choices: log 9, log 10, log 23, log 25. -/
def Obligations.ProbeIsJudged : Prop :=
  ∀ (n : Lane) (t : Transaction) (h : Nat) (status check : Byte) (acks : List Bool) (bytes : List Byte) (e x : Entry)
    (q : LineRequest) (c : Instr) (stages : List WireStage) (s : State), (s.col n).engine.inFlight = some t →
    t.request = probeRequest h → t.requester = .procedure → (s.col n).walk.phase = .idle →
    (s.col n).roll.phase = .probing → (s.col n).roll.position = some h →
    s.table.find ⟨n, h⟩ = some e → e.state ≠ .away → TableInv s → (s.col n).arbiter.procedure = none →
      let a := (s.col n).arbiter
      let roll := (s.col n).roll
      let next := exec (.attemptEnd n acks bytes) s
      let attempting := (s.col n).engine.phase.attempting = true
      let handed : AttemptResult → State → State := fun result y => y.handed n result (t.request.run acks bytes).stages
      let goesOn : State → Host.Outcome State Fault Refusal → Prop := fun y next =>
        let last := ∀ x ∈ s.table.ofLane n, x.state = .away ∨ x.key.handle ≤ h
        let asks : RollCall → LineArbiter → Requester → LineRequest → State := fun roll arbiter who r =>
          y.withColumn n { y.col n with roll, arbiter, engine := (y.col n).engine.granted s.settings n who r }
        (last → roll.deferred = false → a.transfer = none →
          next = .next (y.withColumn n
            { y.col n with
              roll := { roll with phase := .waiting, position := none }
              engine := { (y.col n).engine with
                phase := .idle, inFlight := none, rateInUse := none, stallInUse := none, lastFailed := none
                lck := .released, lda := .released } })) ∧
        (last → roll.deferred = true → a.transfer = none → s.settings.sweep = true → roll.used < s.settings.sweepBudget →
          next = .next (asks { roll with phase := .sweeping, deferred := false, position := none }
            { a with lastGrant := .procedure } .procedure enrolRequest)) ∧
        (x ∈ s.table.ofLane n → x.state ≠ .away → h < x.key.handle →
          (∀ z ∈ s.table.ofLane n, z.state = .away ∨ z.key.handle ≤ h ∨ x.key.handle ≤ z.key.handle) →
          let placed : RollCall := { roll with position := some x.key.handle }
          (a.transfer = none →
            next = .next (asks placed { a with lastGrant := .procedure } .procedure (probeRequest x.key.handle))) ∧
          (a.transfer = some q → a.lastGrant ≠ .transfer →
            next = .next (asks placed
              { procedure := some (probeRequest x.key.handle), transfer := none, lastGrant := .transfer } .transfer q)))
      let missed : State → State := fun y =>
        let loss := s.settings.lossCount
        { y with
          table := y.table.write ⟨n, h⟩ fun x =>
            { x with
              miss := min loss (x.miss + 1)
              state := if x.state = .present ∧ min loss (x.miss + 1) = loss then .lost else x.state }
          port := { y.port with
            notices := rosterIn n 0 0 (if e.state = .present ∧ min loss (e.miss + 1) = loss then 1 else 0)
              y.port.notices } }
      (attempting → acks = [true] → bytes = [status, crc8 [status]] →
        goesOn (handed { outcome := .done, failedByte := none, bytesRead := some [status], bitTimes := 29 }
          { s with
            table := s.table.write ⟨n, h⟩ fun x =>
              { x with status := some status, miss := 0, state := if x.state = .away then .away else .present }
            port := { s.port with
              notices := rosterIn n 0 0 (if e.state = .lost then 1 else 0) s.port.notices } }) next) ∧
      (attempting → acks.headD false = false → t.retryLimit < t.attempt →
        goesOn (handed { outcome := .noAck, failedByte := some 1, bytesRead := none, bitTimes := 11 }
          (missed (countLineError ⟨n, h⟩ s))) next) ∧
      (attempting → acks.headD false = true → bytes = [status, check] → check ≠ crc8 [status] → t.retryLimit < t.attempt →
        goesOn (handed { outcome := .badCheck, failedByte := none, bytesRead := some [status], bitTimes := 29 }
          (missed (countLineError ⟨n, h⟩ s))) next) ∧
      ((s.col n).engine.phase = .closing → endsClosing c n stages → t.retryLimit < t.attempt →
        goesOn ((missed s).closed n stages) (exec c s))

/-- A chunk's end. DONE with bytes left: they join the read and the next chunk of at most 16 is placed; roll call's request
that waits is granted before it, the last grant being TRANSFER. The last chunk DONE: the reply OK carries the number of bytes
and the bytes, the slot is FREE and nothing is owed. An offset the device refuses ends the read RANGE with the whole chunks
read. A chunk FAILED at its attempts' end, its header or count byte not acknowledged or its check bad (the line error counted),
or at the closing's end after STALL or COLLISION, ends the read LINE_ERROR with them. A re-walk that waited for the read is then
made (R12, R63, R67, R72, R75, R76, R79 to R82, R84, R85, R88, R89). The model's choices: log 9, log 10, log 23, log 24,
log 25. -/
def Obligations.ReadChunksAreTaken : Prop :=
  ∀ (n : Lane) (t : Transaction) (r : Read) (tag : Byte) (chunk : List Byte) (p : LineRequest) (acks : List Bool)
    (bytes : List Byte) (c : Instr) (stages : List WireStage) (s : State), (s.col n).engine.inFlight = some t →
    t.request = peekRequest r.handle (r.offset + r.bytes.length) chunk.length → t.requester = .transfer →
    (s.col n).slot = .busy r → s.port.owed.get n = some tag → 1 ≤ chunk.length → chunk.length ≤ 16 →
    (s.col n).arbiter.transfer = none →
      let a := (s.col n).arbiter
      let got := exec (.attemptEnd n [true, true, true] (chunk ++ [crc8 chunk])) s
      let gotStages := (t.request.run [true, true, true] (chunk ++ [crc8 chunk])).stages
      let gotResult : AttemptResult :=
        { outcome := .done, failedByte := none, bytesRead := some chunk, bitTimes := 38 + 9 * chunk.length }
      let refused := exec (.attemptEnd n [true, false] []) s
      let refusedStages := (t.request.run [true, false] []).stages
      let refusedResult : AttemptResult :=
        { outcome := .noAck, failedByte := some 2, bytesRead := none, bitTimes := 20 }
      let attempting := (s.col n).engine.phase.attempting = true
      let answered : Status → List Byte → State → State := fun status bytes x =>
        { x with
          port := { x.port with
            owed := x.port.owed.set n none
            replies := x.port.replies ++
              [{ tag, code := 0x06, status, payload := BitVec.ofNat 8 bytes.length :: bytes }] } }
      let ended : State → Status → List Byte → State := fun x status bytes =>
        answered status bytes (x.withColumn n
          { x.col n with
            slot := .free
            engine := { (x.col n).engine with
              phase := .idle, inFlight := none, rateInUse := none, stallInUse := none, lastFailed := none
              lck := .released, lda := .released } })
      let walked : State → Status → List Byte → State := fun x status bytes =>
        toldNaming s (raise (stateNotice n .walking .sweepAnswer) (answered status bytes (x.withColumn n
          ((x.col n).rewalked (x.col n).roll.used
            ((x.col n).engine.granted s.settings n .procedure (releaseRequest 31))))))
      let finished : State → Status → List Byte → Host.Outcome State Fault Refusal → Prop := fun x status bytes next =>
        a.procedure = none →
          ((s.col n).ctl.rewalkWaiting = false → next = .next (ended x status bytes)) ∧
          ((s.col n).ctl.rewalkWaiting = true → next = .next (walked x status bytes))
      let failed : AttemptResult → Prop := fun result =>
        finished ((countLineError ⟨n, r.handle⟩ s).handed n result (t.request.run acks bytes).stages) .lineError r.bytes
          (exec (.attemptEnd n acks bytes) s)
      (attempting → r.bytes.length + chunk.length < r.count →
        let grown := { r with bytes := r.bytes ++ chunk }
        let more := peekRequest r.handle (r.offset + r.bytes.length + chunk.length)
          (min 16 (r.count - (r.bytes.length + chunk.length)))
        (a.procedure = none →
          got = .next (s.withColumn n
            { s.col n with
              slot := .busy grown
              engine := (s.col n).engine.goesOn gotResult gotStages s.settings n .transfer more
              arbiter := { a with lastGrant := .transfer } })) ∧
        (a.procedure = some p → a.lastGrant = .transfer →
          got = .next (s.withColumn n
            { s.col n with
              slot := .busy grown
              engine := (s.col n).engine.goesOn gotResult gotStages s.settings n .procedure p
              arbiter := { procedure := none, transfer := some more, lastGrant := .procedure } }))) ∧
      (attempting → r.count = r.bytes.length + chunk.length →
        finished (s.handed n gotResult gotStages) .ok (r.bytes ++ chunk) got) ∧
      (attempting → finished (s.handed n refusedResult refusedStages) .range r.bytes refused) ∧
      (attempting → t.retryLimit < t.attempt →
        (acks.headD false = false →
          failed { outcome := .noAck, failedByte := some 1, bytesRead := none, bitTimes := 11 }) ∧
        (acks = [true, true, false] →
          failed { outcome := .noAck, failedByte := some 3, bytesRead := none, bitTimes := 29 }) ∧
        (acks = [true, true, true] → bytes.length = chunk.length + 1 → crc8 bytes.dropLast ≠ bytes.getLastD 0 →
          failed
            { outcome := .badCheck, failedByte := none, bytesRead := some bytes.dropLast
              bitTimes := 38 + 9 * chunk.length })) ∧
      ((s.col n).engine.phase = .closing → endsClosing c n stages → t.retryLimit < t.attempt →
        finished (s.closed n stages) .lineError r.bytes (exec c s))

/-! ## Host link (chapter 11) -/

/-- CHIP_SELECT_FALL with CSN high: the part clocks, with the link flags as they stand, the frame its buffer holds, else the
oldest reply, else a snapshot of the notice first in the order, whose slot then carries counts of 0 and no signature or
power-good code, else an EMPTY frame; while RESETN is low the window is ignored (R169, R170, R172, R173, R180). -/
def Obligations.ChipSelectFallFillsBuffer : Prop :=
  ∀ (s : State), s.port.window = .closed →
    let opened : Port → List Byte → State := fun p frame =>
      { s with port := { p with window := .clocking frame s.port.flags } }
    let next := exec .chipSelectFall s
    (s.port.resetLow = true → next = .next { s with port := { s.port with window := .ignored } }) ∧
    (s.port.resetLow = false →
      (∀ x, s.port.buffer = some x → next = .next (opened s.port (partFrame x s.port.flags))) ∧
      (∀ r rest, s.port.buffer = none → s.port.replies = r :: rest →
        next = .next (opened { s.port with buffer := some (.reply r) } (partFrame (.reply r) s.port.flags))) ∧
      (∀ y rest, s.port.buffer = none → s.port.replies = [] → s.port.notices = y :: rest →
        next = .next (opened
          { s.port with
            buffer := some (.notice y.notice)
            notices := { notice := y.notice.settled, updated := false } :: rest }
          (partFrame (.notice y.notice) s.port.flags))) ∧
      (s.port.buffer = none → s.port.replies = [] → s.port.notices = [] →
        next = .next (opened s.port (emptyFrame s.port.flags))))

/-- CHIP_SELECT_RISE: a frame whose every byte was clocked is delivered, which frees the buffer, takes its reply from the
queue or settles its notice's slot unless that was raised again, and clears the link flags the frame carried; a frame cut
short stays. The host's bytes are then decoded on what the delivery left: none, or kind 00h, do nothing; a frame too short,
in its first three bytes or its payload, sets SHORT and does nothing else. A window that a reset touches is ignored whole
(R169 to R173, R180). The model's choices: log 5, log 7. -/
def Obligations.ChipSelectRiseDelivers : Prop :=
  ∀ (host frame : List Byte) (extra : List Bool) (carried : LinkFlags) (s : State),
    let closed : Port → State := fun p => { s with port := { p with window := .closed } }
    let cleared : LinkFlags :=
      { short := s.port.flags.short && !carried.short, full := s.port.flags.full && !carried.full }
    let next := exec (.chipSelectRise (bitsOf host ++ extra)) s
    (s.port.window = .ignored → next = .next (closed s.port)) ∧
    (s.port.window = .clocking frame carried → extra.length < 8 →
      (host.length < frame.length → next = .next (decodeFrame host (closed s.port))) ∧
      (frame.length ≤ host.length → s.port.buffer = none →
        next = .next (decodeFrame host (closed { s.port with flags := cleared }))) ∧
      (∀ r, frame.length ≤ host.length → s.port.buffer = some (.reply r) →
        next = .next (decodeFrame host
          (closed { s.port with buffer := none, replies := s.port.replies.drop 1, flags := cleared }))) ∧
      (∀ x, frame.length ≤ host.length → s.port.buffer = some (.notice x) →
        next = .next (decodeFrame host (closed
          { s.port with
            buffer := none, flags := cleared
            notices := s.port.notices.filter fun y => y.notice.key != x.key || y.updated })))) ∧
    (∀ x : State,
      (host.headD 0 = 0 → decodeFrame host x = x) ∧
      (host.headD 0 ≠ 0 → host.length < 3 ∨ host.length < 3 + (host.getD 2 0).toNat →
        decodeFrame host x = { x with port := { x.port with flags := { x.port.flags with short := true } } }))

/-- What stands on the part's pins. ATTN is low while a reply, a notice or an undelivered frame waits and RESETN is high, and
is released by the delivery of the last. SDO carries the window's frame, most significant bit first, then bytes of 00h, and is
at high impedance outside a window, in an ignored one and while RESETN is low. The switch's gate is on while the switch is
CLOSED. A sense contact carries 10 µA, and in its place 100 µA or 300 µA while a point job P1 or P2 of its lane is in progress
(R2, R23, R41, R169, R174, R180). The model's choices: log 7. -/
def Obligations.PinsFollowState : Prop :=
  ∀ (n : Lane) (out : List Byte) (carried : LinkFlags) (i j k : Nat) (live : Bool) (r : Reply) (sdi : List Byte) (s : State),
    (s.port.attnLow = true ↔
      s.port.resetLow = false ∧ (s.port.replies ≠ [] ∨ s.port.notices ≠ [] ∨ s.port.buffer ≠ none)) ∧
    (s.port.window = .clocking out carried → s.port.buffer = some (.reply r) → s.port.replies = [r] →
      s.port.notices = [] → out.length ≤ sdi.length → sdi.headD 0 = 0 →
        ∃ t, exec (.chipSelectRise (bitsOf sdi)) s = .next t ∧ t.port.attnLow = false) ∧
    (s.port.resetLow = false → s.port.window = .clocking out carried →
      (i < out.length → j < 8 → s.port.sdo (8 * i + j) = .driven ((out.getD i 0).getLsbD (7 - j))) ∧
      (8 * out.length ≤ k → s.port.sdo k = .driven false)) ∧
    (s.port.resetLow = true ∨ s.port.window = .closed ∨ s.port.window = .ignored → s.port.sdo k = .highImpedance) ∧
    ((s.col n).supervisor.gateOn = true ↔ (s.col n).supervisor.switch = .closed) ∧
    (s.converter.job = some { lane := n, kind := .point .p1, live } → s.senseCurrent n = 100) ∧
    (s.converter.job = some { lane := n, kind := .point .p2, live } → s.senseCurrent n = 300) ∧
    ((∀ p live, s.converter.job ≠ some { lane := n, kind := .point p, live }) → s.senseCurrent n = 10)

/-- With 8 replies queued and owed, every request is discarded: FULL is set, no reply is placed and nothing else changes.
While RESETN is low none arrives. An accepted frame of an unknown kind, or with a payload length other than its kind's, is
answered MALFORMED with its code and changes nothing else (R171, R172, R173, R175, R180). The model's choices: log 4, log 7,
log 24. -/
def Obligations.FramesAreDiscardedOrMalformed : Prop :=
  (∀ (c : Instr) (s : State), (frameOf c).isSome = true →
    (s.port.resetLow = true → exec c s = .next s) ∧
    (s.port.resetLow = false → 8 ≤ s.port.replies.length + s.port.owedCount →
      exec c s = .next { s with port := { s.port with flags := { s.port.flags with full := true } } })) ∧
  ∀ (kind tag length : Byte) (payload : List Byte) (s : State), s.port.takes → length.toNat ≤ payload.length →
    let k := kind.toNat
    let l := length.toNat
    1 ≤ k →
    14 < k ∨ (k ∈ [1, 12, 13, 14] ∧ l ≠ 0) ∨ (k ∈ [4, 10] ∧ l ≠ 1) ∨ (k ∈ [3, 5, 7, 11] ∧ l ≠ 2) ∨ (k = 6 ∧ l ≠ 4) ∨
      (k = 8 ∧ l ≠ 11) ∨ (k = 9 ∧ l ≠ 22) ∨ (k = 2 ∧ (l = 0 ∨ 60 < l ∨ l % 3 ≠ 0)) →
      decodeFrame (kind :: tag :: length :: payload) s =
        placeReply { tag, code := kind, status := .malformed, payload := [] } s

/-- The reading requests each place one reply and change nothing else: STATUS, LANE_READ of a lane, ROSTER from a lane
and handle, CAT_READ, and R167's MATCH_READ, with the record lengths of section 11.6. LANE_READ of a lane field outside 1..4,
ROSTER from one or from a handle outside 1..30, and CAT_READ of a tool number above 8 or from a start index outside 1..64 are
answered RANGE (R130, R150, R167, R175). The model's choices: log 4, log 15, log 16, log 28. -/
def Obligations.ReadingRequestsOnlyReply : Prop :=
  ∀ (tag a b : Byte) (n : Lane) (s : State), s.port.takes →
    let refused : Byte → State := fun code => placeReply { tag, code, status := .range, payload := [] } s
    (a = 0 ∨ 4 < a.toNat → exec (.laneRead tag a) s = .next (refused 0x04)) ∧
    (a = 0 ∨ 4 < a.toNat ∨ b = 0 ∨ 30 < b.toNat → exec (.roster tag a b) s = .next (refused 0x05)) ∧
    (8 < a.toNat ∨ b = 0 ∨ 64 < b.toNat → exec (.catRead tag a b) s = .next (refused 0x0B)) ∧
    (a.toNat = n.number → 1 ≤ b.toNat → b.toNat ≤ 30 →
      exec (.status tag) s = .next (placeReply { tag, code := 0x01, status := .ok, payload := s.statusPayload } s) ∧
      s.statusPayload.length = 10 ∧
      exec (.laneRead tag a) s = .next (placeReply { tag, code := 0x04, status := .ok, payload := s.laneRecord n } s) ∧
      (s.laneRecord n).length = 46 ∧
      exec (.roster tag a b) s =
        .next (placeReply
          { tag, code := 0x05, status := .ok, payload := s.table.rosterPayload ⟨n, b.toNat⟩ } s) ∧
      (s.table.rosterPayload ⟨n, b.toNat⟩).length =
        3 + 27 * min 8 (s.table.entries.filter fun e =>
          n.number < e.key.lane.number || (e.key.lane = n && b.toNat ≤ e.key.handle)).length ∧
      exec (.catRead tag 0 b) s =
        .next (placeReply { tag, code := 0x0B, status := .ok, payload := s.catalogue.listPayload } s) ∧
      s.catalogue.listPayload.length = 2 + 8 * s.catalogue.tools.length ∧
      (s.catalogue.tool b.toNat = none → b.toNat ≤ 8 →
        exec (.catRead tag b 1) s = .next (placeReply { tag, code := 0x0B, status := .notFound, payload := [] } s)) ∧
      (∀ t, s.catalogue.tool b.toNat = some t → b.toNat ≤ 8 →
        exec (.catRead tag b 1) s =
          .next (placeReply { tag, code := 0x0B, status := .ok, payload := t.readPayload 1 } s)) ∧
      exec (.matchRead tag) s = .next (placeReply { tag, code := 0x0D, status := .ok, payload := s.naming.bytes } s) ∧
      s.naming.bytes.length = 10 + s.naming.record.unmatched.length)

/-- CONFIGURE with no pair, with more than 20, or with an id outside the settings table is answered MALFORMED and applies
nothing. Any other list of pairs replies with the value taken for each, in order: brought into its id's range, down to a whole
step. Pairs of ids in force later only are stored in their order and change nothing else; a lowered loss count lowers the miss
counts above it; a list acts as its first pair and then the rest (R139, R171, R175, R176). Lane enables alone are
LaneEnableIsWritten. The model's choices: log 3, log 4. -/
def Obligations.ConfigureTakesValue : Prop :=
  ∀ (tag : Byte) (p : SettingPair) (pairs : List SettingPair) (a b : List Byte) (s u v : State), s.port.takes →
    let replied : List Byte → Reply := fun payload => { tag, code := 0x02, status := .ok, payload }
    let value := takenValue p.id.toNat p.value.toNat
    (pairs = [] ∨ 20 < pairs.length ∨ (∃ p ∈ pairs, p.id.toNat ∉ settingIds) →
      exec (.configure tag pairs) s =
        .next (placeReply { tag, code := 0x02, status := .malformed, payload := [] } s)) ∧
    (pairs ≠ [] → pairs.length ≤ 20 →
      (∀ p ∈ pairs, p.id.toNat ∈ settingIds ∧ p.id ≠ 0x07 ∧ p.id.toNat ∉ [0x21, 0x22, 0x23, 0x24]) →
        exec (.configure tag pairs) s =
          .next (placeReply (replied (pairs.flatMap pairTaken))
            { s with
              settings := pairs.foldl (fun g p => g.stored p.id.toNat (takenValue p.id.toNat p.value.toNat)) s.settings })) ∧
    (p.id = 0x07 →
      exec (.configure tag [p]) s =
        .next (placeReply (replied [0x07, 0, BitVec.ofNat 8 value])
          { s with
            settings := { s.settings with lossCount := value }
            table :=
              if value < s.settings.lossCount then
                { s.table with
                  entries := s.table.entries.map fun e => if value < e.miss then { e with miss := value } else e }
              else s.table })) ∧
    (pairs ≠ [] → pairs.length < 20 → u.port.takes →
      exec (.configure tag [p]) s = .next (placeReply (replied a) u) →
      exec (.configure tag pairs) u = .next (placeReply (replied b) v) →
        exec (.configure tag (p :: pairs)) s = .next (placeReply (replied (a ++ b)) v))

/-- CONFIGURE of lane enable: off takes a lane from any state but OFF to OFF with its timers stopped, its jobs
withdrawn, its entries gone and its fault code NONE; on, which any value above 0 is, takes a lane in OFF to EMPTY, and on to
SETTLING while its contact reads MATED; off in OFF and on in any other state store the setting alone (R3, R18, R124, R176).
That the LANE_GONE reply of a read that the disabling ends comes before CONFIGURE's own reply is the model's choice: no rule
orders the two (log 27). The model's choices: log 4, log 8, log 27. -/
def Obligations.LaneEnableIsWritten : Prop :=
  ∀ (tag : Byte) (n : Lane) (on : BitVec 16) (s : State), s.port.takes → on ≠ 0 →
    let id : Byte := BitVec.ofNat 8 (0x20 + n.number)
    let stored : Bool → State → State := fun v x =>
      { x with settings := { s.settings with enabled := s.settings.enabled.set n v } }
    let replied : Byte → Reply := fun v => { tag, code := 0x02, status := .ok, payload := [id, 0, v] }
    let turn : BitVec 16 → Host.Outcome State Fault Refusal := fun value => exec (.configure tag [{ id, value }]) s
    let gone := (s.table.ofLane n).map (·.key)
    (s.laneState n = .off → turn 0 = .next (placeReply (replied 0) (stored false s))) ∧
    (s.laneState n ≠ .off → turn on = .next (placeReply (replied 1) (stored true s))) ∧
    (s.laneState n ≠ .off → (s.laneState n).powered = false →
      turn 0 = .next (placeReply (replied 0)
        (stored false (toldNaming s (raise (stateNotice n .off .disabled)
          { s.withColumn n
              { s.col n with
                ctl := { (s.col n).ctl with
                  state := .off, settle := .stopped, grantWindow := .stopped, hold := .stopped
                  grantPending := none, rewalkWaiting := false, fault := .none } } with
            converter := s.converter.withdraw n
            table :=
              { entries := s.table.entries.filter fun e => !gone.contains e.key
                away := s.table.away.filter fun k => !gone.contains k }
            port := { s.port with notices := rosterIn n 0 gone.length 0 s.port.notices } }))))) ∧
    (s.laneState n ≠ .off → (s.laneState n).powered = true →
      turn 0 = .next (placeReply (replied 0)
        (stored false (toldNaming s (raise (stateNotice n .off .disabled)
          { s.withColumn n
              { (s.col n).unpowered with
                ctl := { (s.col n).unpowered.ctl with
                  state := .off, settle := .stopped, grantWindow := .stopped, hold := .stopped
                  grantPending := none, fault := .none } } with
            converter := s.converter.withdraw n
            table :=
              { entries := s.table.entries.filter fun e => !gone.contains e.key
                away := s.table.away.filter fun k => !gone.contains k }
            port := { s.port with
              owed := if (s.col n).slot = .free then s.port.owed else s.port.owed.set n none
              replies := s.port.replies ++ (s.col n).goneReplies (s.port.owed.get n)
              notices := rosterIn n 0 gone.length 0 ((s.col n).abortNotices n s.port.notices) } }))))) ∧
    (s.laneState n = .off → (s.col n).ctl.reading = .opened →
      turn on = .next (placeReply (replied 1)
        (stored true (toldNaming s (raise (stateNotice n .empty .enabled) (s.withColumn n
          { s.col n with ctl := { (s.col n).ctl with state := .empty } })))))) ∧
    (s.laneState n = .off → (s.col n).ctl.reading = .mated →
      turn on = .next (placeReply (replied 1)
        (stored true (toldNaming s (raise (stateNotice n .settling .mated) (raise (stateNotice n .empty .enabled)
          (s.withColumn n
            { s.col n with
              ctl := { (s.col n).ctl with state := .settling, settle := .running s.settings.mateSettle }
              roll := { (s.col n).roll with used := 0 } })))))))

/-- DEVICE_READ is judged in the order RANGE, REFUSED_STATE, NO_ENTRY, BUSY, and a refusal changes nothing but the
reply queue. A read that passes owes its reply, its count brought into range, and its first chunk of at most 16 bytes
is placed and granted (R78, R84, R88, R177). The model's choices: log 4, log 24. -/
def Obligations.DeviceReadIsChecked : Prop :=
  ∀ (tag lane handle offset count : Byte) (n : Lane) (s : State), s.port.takes →
    let refused : Status → State := fun st => placeReply { tag, code := 0x06, status := st, payload := [] } s
    let next := exec (.deviceRead tag lane handle offset count) s
    let whole := if count = 0 ∨ 128 < count.toNat then 128 else count.toNat
    let taken := min whole (256 - offset.toNat)
    (lane = 0 ∨ 4 < lane.toNat ∨ handle = 0 ∨ 30 < handle.toNat → next = .next (refused .range)) ∧
    (lane.toNat = n.number → 1 ≤ handle.toNat → handle.toNat ≤ 30 →
      (s.laneState n ≠ .ready ∨ (s.col n).ctl.rewalkWaiting = true → next = .next (refused .refusedState)) ∧
      (s.laneState n = .ready → (s.col n).ctl.rewalkWaiting = false →
        ((∀ e ∈ s.table.ofLane n, e.key.handle = handle.toNat → e.state = .away) → next = .next (refused .noEntry)) ∧
        ((∃ e ∈ s.table.ofLane n, e.key.handle = handle.toNat ∧ e.state ≠ .away) →
          ((s.col n).slot ≠ .free → next = .next (refused .busy)) ∧
          ((s.col n).slot = .free → (s.col n).engine.phase = .idle → (s.col n).arbiter.procedure = none →
            next = .next
              { s.withColumn n
                  { s.col n with
                    slot := .busy { handle := handle.toNat, offset := offset.toNat, count := taken, bytes := [] }
                    engine := (s.col n).engine.granted s.settings n .transfer
                      (peekRequest handle.toNat offset.toNat (min 16 taken))
                    arbiter := { procedure := none, transfer := none, lastGrant := .transfer } } with
                port := { s.port with owed := s.port.owed.set n (some tag) } }))))

/-- DEVICE_CLEAR sets the line error count of the entry named to 0 and clears DEGRADED, telling it in ROSTER changed if
it was set; it changes no other field, and without such an entry nothing at all (R128, R129, R175). The model's
choices: log 4. -/
def Obligations.DeviceClearResetsErrors : Prop :=
  ∀ (tag lane handle : Byte) (n : Lane) (e : Entry) (s : State), s.port.takes →
    let replied : Status → Reply := fun st => { tag, code := 0x07, status := st, payload := [] }
    let next := exec (.deviceClear tag lane handle) s
    (lane = 0 ∨ 4 < lane.toNat ∨ handle = 0 ∨ 30 < handle.toNat → next = .next (placeReply (replied .range) s)) ∧
    (lane.toNat = n.number → 1 ≤ handle.toNat → handle.toNat ≤ 30 →
      (s.table.find ⟨n, handle.toNat⟩ = none → next = .next (placeReply (replied .noEntry) s)) ∧
      (s.table.find ⟨n, handle.toNat⟩ = some e →
        next = .next (placeReply (replied .ok)
          { s with
            table := s.table.write ⟨n, handle.toNat⟩ fun x =>
              { x with errors := 0, flags := { x.flags with degraded := false } }
            port := { s.port with
              notices := rosterIn n 0 0 (if e.flags.degraded = true then 1 else 0) s.port.notices } })))

/-! ## Tool catalogue and naming (chapters 9 and 10) -/

/-- CAT_TOOL: an expectation byte above 05h or a number above 8 is RANGE; number 0 takes the lowest undefined number, FULL if
there is none; a key of another tool is CONFLICT naming that tool; else the tool is defined, or redefined without slots. CAT_DROP:
a number above 8 is RANGE, an undefined one NOT_FOUND; a defined tool goes with its slots, tools and pool places falling by
them, the others untouched, its number free again; 0 empties the catalogue. A change makes a naming pass due before the reply
(R145, R148, R149, R178). The model's choices: log 4. -/
def Obligations.ToolsAreDefinedAndDropped : Prop :=
  ∀ (tag number : Byte) (key : Identity) (bytes : PerLane Byte) (expects : PerLane Expectation) (k : Nat) (other : Tool)
    (s : State), s.port.takes →
    (let replied : Status → List Byte → Reply := fun status payload => { tag, code := 0x08, status, payload }
     let next := exec (.catTool tag number key bytes) s
     (expectationsField bytes = none ∨ 8 < number.toNat → next = .next (placeReply (replied .range []) s)) ∧
     (expectationsField bytes = some expects →
       (number = 0 → (∀ i < 8, (s.catalogue.tool (i + 1)).isSome = true) →
         next = .next (placeReply (replied .full []) s)) ∧
       ((number = 0 ∧ 1 ≤ k ∧ k ≤ 8 ∧ s.catalogue.tool k = none ∧
           ∀ i < k, 1 ≤ i → (s.catalogue.tool i).isSome = true) ∨
         (number.toNat = k ∧ 1 ≤ k ∧ k ≤ 8) →
           (s.catalogue.keyHolder k key = some other →
             next = .next (placeReply (replied .conflict [0x01, BitVec.ofNat 8 other.number]) s)) ∧
           ((∀ t ∈ s.catalogue.tools, t.number ≠ k → t.key ≠ key) →
             next = .next (placeReply (replied .ok [BitVec.ofNat 8 k])
               (passDue { s with
                 catalogue := { tools := insertTool { number := k, key, expects, slots := [] } s.catalogue.tools } })))))) ∧
    (let replied : Status → Reply := fun status => { tag, code := 0x0A, status, payload := [] }
     let next := exec (.catDrop tag number) s
     let left : Catalogue := { tools := s.catalogue.tools.filter fun t => t.number != number.toNat }
     CatalogueInv s.catalogue →
       (8 < number.toNat → next = .next (placeReply (replied .range) s)) ∧
       (1 ≤ number.toNat → number.toNat ≤ 8 →
         (s.catalogue.tool number.toNat = none → next = .next (placeReply (replied .notFound) s)) ∧
         (∀ t, s.catalogue.tool number.toNat = some t →
           next = .next (placeReply (replied .ok) (passDue { s with catalogue := left })) ∧
           left.tool number.toNat = none ∧ (∀ i, i ≠ number.toNat → left.tool i = s.catalogue.tool i) ∧
           left.tools.length + 1 = s.catalogue.tools.length ∧
           left.places + t.slots.length = s.catalogue.places ∧
           ((∀ i, 1 ≤ i → i < number.toNat → (s.catalogue.tool i).isSome = true) →
             left.lowestUndefined = some number.toNat))) ∧
       (number = 0 → s.catalogue.tools ≠ [] →
         next = .next (placeReply (replied .ok) (passDue { s with catalogue := { tools := [] } }))) ∧
       (number = 0 → s.catalogue.tools = [] → next = .next (placeReply (replied .ok) s)))

/-- CAT_SLOT: a bad field or number is RANGE, an undefined number NOT_FOUND, a full pool FULL. Then the first of these
conflicts: LANE_NONE; PARENT, no slot there or one of another class or lane; DEPTH, a parent at depth 2; LEG, given at the root
or missing below; NAME, POSITION and PIN with the index of the first slot that collides. A slot that passes is appended with its
depth, and a naming pass is due before the reply with its index and depth (R144, R146, R149, R178). The model's choices: log
4. -/
def Obligations.CatSlotAppends : Prop :=
  ∀ (tag number : Byte) (bytes : SlotBytes) (x : Slot) (t : Tool) (i : Nat) (y : Slot) (s : State),
    s.port.takes → bytes.name.length = 8 →
    let replied : Status → List Byte → Reply := fun status payload => { tag, code := 0x09, status, payload }
    let next := exec (.catSlot tag number bytes) s
    let conflicts : Byte → Nat → Prop := fun cause index =>
      next = .next (placeReply (replied .conflict [cause, BitVec.ofNat 8 index]) s)
    let parentOf : Slot → Prop := fun p => t.slots[x.parent - 1]? = some p ∧ p.cls = 1 ∧ p.lane = x.lane
    let noParent := x.parent ≠ 0 ∧ ∀ p, ¬parentOf p
    let tooDeep := x.parent ≠ 0 ∧ ∃ p, parentOf p ∧ 2 ≤ p.depth
    let legBad := x.parent = 0 ↔ x.leg.isSome = true
    let sameName : Slot → Prop := fun y => y.name = x.name
    let samePosition : Slot → Prop := fun y =>
      (∃ k, x.filling = .ordinal k ∧ y.filling = .ordinal k) ∧ y.lane = x.lane ∧ y.cls = x.cls ∧ y.parent = x.parent ∧
        y.leg = x.leg
    let samePin : Slot → Prop := fun y => ∃ p, x.filling = .pin p ∧ y.filling = .pin p
    let first : (Slot → Prop) → Prop := fun p => t.slots[i]? = some y ∧ p y ∧ ∀ j < i, ∀ z, t.slots[j]? = some z → ¬p z
    let none' : (Slot → Prop) → Prop := fun p => ∀ z ∈ t.slots, ¬p z
    (slotField bytes = none ∨ number = 0 ∨ 8 < number.toNat → next = .next (placeReply (replied .range []) s)) ∧
    (slotField bytes = some x → 1 ≤ number.toNat → number.toNat ≤ 8 →
      (s.catalogue.tool number.toNat = none → next = .next (placeReply (replied .notFound []) s)) ∧
      (s.catalogue.tool number.toNat = some t →
        (64 ≤ (s.catalogue.tools.map fun t => t.slots.length).sum → next = .next (placeReply (replied .full []) s)) ∧
        ((s.catalogue.tools.map fun t => t.slots.length).sum < 64 →
          (t.expects.get x.lane = .nothing → conflicts 0x02 0) ∧
          (t.expects.get x.lane ≠ .nothing →
            (noParent → conflicts 0x03 x.parent) ∧
            (tooDeep → conflicts 0x04 x.parent) ∧
            (¬noParent → ¬tooDeep → legBad → conflicts 0x05 0) ∧
            (¬noParent → ¬tooDeep → ¬legBad →
              (first sameName → conflicts 0x06 (i + 1)) ∧
              (none' sameName → first samePosition → conflicts 0x07 (i + 1)) ∧
              (none' sameName → first samePin → conflicts 0x08 (i + 1)) ∧
              (none' sameName → none' samePosition → none' samePin →
                ∀ depth, (x.parent = 0 ∧ depth = 0) ∨ (x.parent ≠ 0 ∧ ∃ p, parentOf p ∧ depth = p.depth + 1) →
                  next = .next (placeReply
                    (replied .ok [BitVec.ofNat 8 (t.slots.length + 1), BitVec.ofNat 8 depth])
                    (passDue { s with
                      catalogue :=
                        { tools := insertTool { t with slots := t.slots ++ [{ x with depth }] }
                            s.catalogue.tools } }))))))))

/-- What a naming pass decides. DETACHED with no lane in READY. Else, by the keys of the defined tools found in its view,
NO_TOOL with none and AMBIGUOUS with two; with one, that tool and the first entry with its key in reporting order: MISMATCH
where a READY lane is expected NONE or a class other than its record's; else its slots are matched, the required ones not
filled are listed in ascending order, INCOMPLETE with one and NAMED with none, and the entries that fill no slot are the surplus
(R152, R156 to R159, R163). -/
def Obligations.NamingPassSelectsTool : Prop :=
  ∀ (t : Tool) (e : Entry) (s : State), TableInv s → CatalogueInv s.catalogue →
    let d := s.decision
    let keyed : Tool → Prop := fun u => ∃ x, s.views x ∧ x.identity = u.key
    let nothing : Prop := d.filled = [] ∧ d.surplus = 0 ∧ d.unmatched = []
    let ends : MatchOutcome → Prop := fun o => d.outcome = o ∧ d.tool = 0 ∧ d.key = none ∧ nothing
    let fails : Lane → Prop := fun n =>
      s.laneState n = .ready ∧
        (t.expects.get n = .nothing ∨ ∃ cls, t.expects.get n = .ofClass cls ∧ (s.col n).ctl.record.cls ≠ some cls)
    ((∀ n, s.laneState n ≠ .ready) → ends .detached) ∧
    ((∃ n, s.laneState n = .ready) →
      ((∀ u ∈ s.catalogue.tools, ¬keyed u) → ends .noTool) ∧
      (∀ u v, u ∈ s.catalogue.tools → v ∈ s.catalogue.tools → keyed u → keyed v → u ≠ v → ends .ambiguous) ∧
      (t ∈ s.catalogue.tools → (∀ u ∈ s.catalogue.tools, keyed u → u = t) → s.views e → e.identity = t.key →
        (∀ x, s.views x → x.identity = t.key → x = e ∨ e.key.before x.key = true) →
          d.tool = t.number ∧ d.key = some e.key ∧
          ((∃ n, fails n) → d.outcome = .mismatch ∧ nothing) ∧
          ((∀ n, ¬fails n) →
            d.slots = t.slots ∧ d.filled = matchSlots t s.namingView ∧
            d.unmatched.Pairwise (· < ·) ∧
            (∀ i, i ∈ d.unmatched ↔
              1 ≤ i ∧ ∃ x, t.slots[i - 1]? = some x ∧ x.required = true ∧ ∀ f ∈ d.filled, f.index ≠ i) ∧
            d.outcome = (if d.unmatched = [] then .named else .incomplete) ∧
            ∃ spare : List Entry, spare.Nodup ∧ spare.length = d.surplus ∧
              ∀ x, x ∈ spare ↔ s.views x ∧ ∀ f ∈ d.filled, f.key ≠ x.key)))

/-- How slots are filled. A slot is filled by an entry of the view that stands at its place: its lane and class, at the lane
root or under the entry that fills its parent slot, on its leg. A pinned slot by the entry with its pin; an unpinned slot of
ordinal k by the k-th, by ascending identity, of the entries there that no pinned slot has filled. Each slot is filled at most
once, and each entry fills at most one (R156, R160, R161, R162). -/
def Obligations.NamingPassFillsSlots : Prop :=
  ∀ (t : Tool) (s : State), TableInv s → CatalogueInv s.catalogue → t ∈ s.catalogue.tools →
    let filled := matchSlots t s.namingView
    let pooled : Slot → Entry → Prop := fun x e =>
      s.views e ∧ x.fitsAt filled e ∧ ∀ f ∈ filled, f.pinned = true → f.key ≠ e.key
    (filled.map Filled.index).Nodup ∧ (filled.map Filled.key).Nodup ∧
    (∀ f ∈ filled, ∃ x e, 1 ≤ f.index ∧ t.slots[f.index - 1]? = some x ∧ s.views e ∧ e.key = f.key ∧
      (f.pinned = true ↔ ∃ p, x.filling = .pin p)) ∧
    ∀ (i : Nat) (x : Slot) (e : Entry), t.slots[i]? = some x → s.views e →
      ((∃ f ∈ filled, f.index = i + 1 ∧ f.key = e.key) ↔
        (∃ p, x.filling = .pin p ∧ e.identity = p ∧ x.fitsAt filled e) ∨
        (∃ below : List Entry, x.filling = .ordinal (below.length + 1) ∧ pooled x e ∧ below.Nodup ∧
          ∀ y, y ∈ below ↔ pooled x y ∧ y.identity.toNat < e.identity.toNat))

/-- NAME_NOW with a lane in the bring-up set marks a pass pending and replies the generation and PENDING; with none it runs
the pass: the generation grows by 1 and wraps, the record and the NAMING notice carry what the pass decides, and the reply says
the new generation and RAN. Each entry in the view takes the name of the slot it fills, with its reference, or else "~", its
lane's digit, "." and its handle's two digits; every other entry is left alone (R152, R154, R156, R162, R164, R165, R167). The
model's choices: log 4. -/
def Obligations.NameNowRunsPass : Prop :=
  ∀ (tag : Byte) (s : State), s.port.takes →
    let replied : Nat → Byte → Reply := fun g b =>
      { tag, code := 0x0C, status := .ok, payload := [BitVec.ofNat 8 (g / 256), BitVec.ofNat 8 g, b] }
    let generation := s.naming.record.generation
    let grown := if generation = 65535 then 0 else generation + 1
    let d := s.decision
    let decimal : Nat → Byte := fun i => BitVec.ofNat 8 (48 + i % 10)
    let standard : Entry → Entry := fun e =>
      { e with
        name := some [0x7E, decimal e.key.lane.number, 0x2E, decimal (e.key.handle / 10), decimal e.key.handle]
        slotRef := none }
    let named : Entry → Entry := fun e =>
      match d.filled.find? fun f => f.key = e.key with
      | none => standard e
      | some f =>
        match d.slots[f.index - 1]? with
        | none => standard e
        | some x => { e with name := some x.name, slotRef := some { tool := d.tool, index := f.index } }
    (s.anyBringingUp = true →
      exec (.nameNow tag) s =
        .next (placeReply (replied generation 0x01) { s with naming := { s.naming with passPending := true } })) ∧
    (s.anyBringingUp = false → generation ≤ 65535 →
      exec (.nameNow tag) s =
        .next (placeReply (replied grown 0x00)
          (raise
            (.naming
              { generation := grown, tool := d.tool, outcome := d.outcome, matched := d.filled.length
                missing := d.unmatched.length, surplus := d.surplus })
            { s with
              naming :=
                { record :=
                    { generation := grown, tool := d.tool, outcome := d.outcome, key := d.key
                      matched := d.filled.length, surplus := d.surplus, unmatched := d.unmatched }
                  passPending := false }
              table := { s.table with
                entries := s.table.entries.map fun e =>
                  if e.state ≠ .away ∧ s.laneState e.key.lane = .ready then named e else e } })))

/-! ## Resets (chapter 11) -/

/-- HARDWARE_RESET. Power-on and the release of RESETN: every block takes its reset values whatever it held, each comparator
reads its contact, a window that spans the end is ignored; RESTARTED with the cause waits first and then LANE_STATE(SETTLING,
MATED) of each lane whose contact reads MATED, in lane order, those lanes in SETTLING with the timer started. The fall of RESETN
holds every block at its reset values, nothing waiting, a window open then ignored; a fall while low and a rise while high are
none (R3, R21, R38, R53, R90, R115, R131, R142, R151, R168, R173, R174, R180). The model's choices: log 6, log 7. -/
def Obligations.HardwareResetSetsDefaults : Prop :=
  ∀ (contacts : PerLane Contact) (csnLow : Bool) (s : State),
    let cameUp : ResetMoment → Window → ResetCause → Prop := fun moment window cause => ∃ t,
      exec (.hardwareReset moment contacts csnLow) s = .next t ∧
      (t.port.notices.map fun y => y.notice) =
        .restarted cause ::
          ((Lane.all.filter fun n => (contacts.get n).reads == .mated).map fun n => stateNotice n .settling .mated) ∧
      t.port = { Port.reset with window, notices := t.port.notices, resetCause := cause } ∧
      t.settings = Settings.defaults ∧ t.pending = s.pending ∧ t.table = DeviceTable.reset ∧
      t.catalogue = Catalogue.reset ∧ t.converter = Converter.reset ∧ t.naming = Naming.reset ∧
      ∀ n, t.col n =
        { Column.reset with
          ctl := { LaneCtl.reset with
            reading := (contacts.get n).reads
            state := if (contacts.get n).reads = .mated then .settling else .empty
            settle := if (contacts.get n).reads = .mated then .running 50 else .stopped } }
    cameUp .powerOn (if csnLow = true then .ignored else .closed) .powerOn ∧
    (s.port.resetLow = true →
      cameUp .released s.port.window .resetPin ∧ exec (.hardwareReset .held contacts csnLow) s = .next s) ∧
    (s.port.resetLow = false →
      exec (.hardwareReset .released contacts csnLow) s = .next s ∧
      exec (.hardwareReset .held contacts csnLow) s =
        .next
          { State.reset with
            port := { Port.reset with
              resetLow := true, notices := [], resetCause := s.port.resetCause
              window := if s.port.window = .closed then .closed else .ignored }
            pending := s.pending })

/-- RESTART: settings, catalogue, link flags, window and waiting commands are kept; a lane in OFF keeps its controller,
and every other takes its reset values but its reading, entering SETTLING if that is MATED; supplies, engines, walks,
roll calls, table and naming take their reset values; queue, owed replies and buffer are emptied; the reply OK is the
one in the queue (R22, R38, R53, R90, R115, R131, R142, R168, R179). The model's choices: log 4, log 11, log 12. -/
def Obligations.RestartKeepsSettings : Prop :=
  ∀ (tag : Byte) (s : State), s.port.takes → ∃ t,
    exec (.restart tag) s = .next t ∧
    t.settings = s.settings ∧ t.catalogue = s.catalogue ∧ t.pending = s.pending ∧
    t.table = DeviceTable.reset ∧ t.naming = Naming.reset ∧
    t.port.window = s.port.window ∧ t.port.flags = s.port.flags ∧ t.port.buffer = none ∧
    t.port.owed = PerLane.fill none ∧ t.port.resetCause = .restartRequest ∧
    t.port.replies = [{ tag, code := 0x0E, status := .ok, payload := [] }] ∧
    t.converter =
      { Converter.reset with job := s.converter.job.map fun j => { j with live := false } } ∧
    (t.port.notices.map fun y => y.notice) =
      .restarted .restartRequest ::
        ((Lane.all.filter fun n => s.laneState n != .off && (s.col n).ctl.reading == .mated).map fun n =>
          stateNotice n .settling .mated) ∧
    ∀ n, t.col n =
      { Column.reset with
        ctl :=
          if s.laneState n = .off then (s.col n).ctl
          else
            { LaneCtl.reset with
              reading := (s.col n).ctl.reading
              state := if (s.col n).ctl.reading = .mated then .settling else .empty
              settle := if (s.col n).ctl.reading = .mated then .running s.settings.mateSettle else .stopped } }
end

