-- ==== Sys2Proof/Laws/State.lean ====
section
/-!
SUPPORT. What each update leaves in each field of State: one lemma per field and update.
-/

namespace Sys2Proof

namespace PerLane

variable {α β : Type}

@[simp] theorem get_fill (a : α) (n : Lane) : (fill a).get n = a := by cases n <;> rfl

@[simp] theorem get_map (f : α → β) (p : PerLane α) (n : Lane) : (p.map f).get n = f (p.get n) := by cases n <;> rfl

@[simp] theorem get_set_self (p : PerLane α) (n : Lane) (a : α) : (p.set n a).get n = a := by cases n <;> rfl

@[simp] theorem get_set_ne (p : PerLane α) {m n : Lane} (a : α) (h : m ≠ n) : (p.set n a).get m = p.get m := by
  cases m <;> cases n <;> first | rfl | exact absurd rfl h

@[simp] theorem set_set (p : PerLane α) (n : Lane) (a b : α) : (p.set n a).set n b = p.set n b := by cases n <;> rfl

@[simp] theorem set_get (p : PerLane α) (n : Lane) : p.set n (p.get n) = p := by cases n <;> rfl

theorem get_set (p : PerLane α) (m n : Lane) (a : α) : (p.set n a).get m = if m = n then a else p.get m := by
  by_cases h : m = n
  · simp [h]
  · simp [h]

theorem ext_get {p q : PerLane α} (h : ∀ n, p.get n = q.get n) : p = q := by
  have h1 := h .one
  have h2 := h .two
  have h3 := h .three
  have h4 := h .four
  cases p
  cases q
  simp only [get] at h1 h2 h3 h4
  simp [h1, h2, h3, h4]

theorem mem_toList (p : PerLane α) (a : α) : a ∈ p.toList ↔ ∃ n, p.get n = a := by
  constructor
  · intro h
    simp only [toList, List.mem_cons, List.not_mem_nil, or_false] at h
    rcases h with h | h | h | h
    · exact ⟨.one, h.symm⟩
    · exact ⟨.two, h.symm⟩
    · exact ⟨.three, h.symm⟩
    · exact ⟨.four, h.symm⟩
  · rintro ⟨n, rfl⟩
    cases n <;> simp [toList, get]

end PerLane

namespace Machine.State

variable (s : State) (m n : Lane)

section

variable (f : Column → Column)

@[simp] theorem modCol_settings : (s.modCol n f).settings = s.settings := rfl

@[simp] theorem modCol_converter : (s.modCol n f).converter = s.converter := rfl

@[simp] theorem modCol_table : (s.modCol n f).table = s.table := rfl

@[simp] theorem modCol_catalogue : (s.modCol n f).catalogue = s.catalogue := rfl

@[simp] theorem modCol_naming : (s.modCol n f).naming = s.naming := rfl

@[simp] theorem modCol_port : (s.modCol n f).port = s.port := rfl

@[simp] theorem modCol_pending : (s.modCol n f).pending = s.pending := rfl

@[simp] theorem modCol_col : (s.modCol n f).col n = f (s.col n) := by cases n <;> rfl

@[simp] theorem modCol_col_ne (h : m ≠ n) : (s.modCol n f).col m = s.col m := PerLane.get_set_ne _ _ h

end

section

variable (f : LaneCtl → LaneCtl)

@[simp] theorem modCtl_settings : (s.modCtl n f).settings = s.settings := rfl

@[simp] theorem modCtl_converter : (s.modCtl n f).converter = s.converter := rfl

@[simp] theorem modCtl_table : (s.modCtl n f).table = s.table := rfl

@[simp] theorem modCtl_catalogue : (s.modCtl n f).catalogue = s.catalogue := rfl

@[simp] theorem modCtl_naming : (s.modCtl n f).naming = s.naming := rfl

@[simp] theorem modCtl_port : (s.modCtl n f).port = s.port := rfl

@[simp] theorem modCtl_pending : (s.modCtl n f).pending = s.pending := rfl

@[simp] theorem modCtl_col : (s.modCtl n f).col n = { s.col n with ctl := f (s.col n).ctl } := by cases n <;> rfl

@[simp] theorem modCtl_col_ne (h : m ≠ n) : (s.modCtl n f).col m = s.col m := PerLane.get_set_ne _ _ h

end

section

variable (f : Supervisor → Supervisor)

@[simp] theorem modSupervisor_settings : (s.modSupervisor n f).settings = s.settings := rfl

@[simp] theorem modSupervisor_converter : (s.modSupervisor n f).converter = s.converter := rfl

@[simp] theorem modSupervisor_table : (s.modSupervisor n f).table = s.table := rfl

@[simp] theorem modSupervisor_catalogue : (s.modSupervisor n f).catalogue = s.catalogue := rfl

@[simp] theorem modSupervisor_naming : (s.modSupervisor n f).naming = s.naming := rfl

@[simp] theorem modSupervisor_port : (s.modSupervisor n f).port = s.port := rfl

@[simp] theorem modSupervisor_pending : (s.modSupervisor n f).pending = s.pending := rfl

@[simp] theorem modSupervisor_col : (s.modSupervisor n f).col n = { s.col n with supervisor := f (s.col n).supervisor } := by cases n <;> rfl

@[simp] theorem modSupervisor_col_ne (h : m ≠ n) : (s.modSupervisor n f).col m = s.col m := PerLane.get_set_ne _ _ h

end

section

variable (f : Engine → Engine)

@[simp] theorem modEngine_settings : (s.modEngine n f).settings = s.settings := rfl

@[simp] theorem modEngine_converter : (s.modEngine n f).converter = s.converter := rfl

@[simp] theorem modEngine_table : (s.modEngine n f).table = s.table := rfl

@[simp] theorem modEngine_catalogue : (s.modEngine n f).catalogue = s.catalogue := rfl

@[simp] theorem modEngine_naming : (s.modEngine n f).naming = s.naming := rfl

@[simp] theorem modEngine_port : (s.modEngine n f).port = s.port := rfl

@[simp] theorem modEngine_pending : (s.modEngine n f).pending = s.pending := rfl

@[simp] theorem modEngine_col : (s.modEngine n f).col n = { s.col n with engine := f (s.col n).engine } := by cases n <;> rfl

@[simp] theorem modEngine_col_ne (h : m ≠ n) : (s.modEngine n f).col m = s.col m := PerLane.get_set_ne _ _ h

end

section

variable (f : LineArbiter → LineArbiter)

@[simp] theorem modArbiter_settings : (s.modArbiter n f).settings = s.settings := rfl

@[simp] theorem modArbiter_converter : (s.modArbiter n f).converter = s.converter := rfl

@[simp] theorem modArbiter_table : (s.modArbiter n f).table = s.table := rfl

@[simp] theorem modArbiter_catalogue : (s.modArbiter n f).catalogue = s.catalogue := rfl

@[simp] theorem modArbiter_naming : (s.modArbiter n f).naming = s.naming := rfl

@[simp] theorem modArbiter_port : (s.modArbiter n f).port = s.port := rfl

@[simp] theorem modArbiter_pending : (s.modArbiter n f).pending = s.pending := rfl

@[simp] theorem modArbiter_col : (s.modArbiter n f).col n = { s.col n with arbiter := f (s.col n).arbiter } := by cases n <;> rfl

@[simp] theorem modArbiter_col_ne (h : m ≠ n) : (s.modArbiter n f).col m = s.col m := PerLane.get_set_ne _ _ h

end

section

variable (f : TransferSlot)

@[simp] theorem setSlot_settings : (s.setSlot n f).settings = s.settings := rfl

@[simp] theorem setSlot_converter : (s.setSlot n f).converter = s.converter := rfl

@[simp] theorem setSlot_table : (s.setSlot n f).table = s.table := rfl

@[simp] theorem setSlot_catalogue : (s.setSlot n f).catalogue = s.catalogue := rfl

@[simp] theorem setSlot_naming : (s.setSlot n f).naming = s.naming := rfl

@[simp] theorem setSlot_port : (s.setSlot n f).port = s.port := rfl

@[simp] theorem setSlot_pending : (s.setSlot n f).pending = s.pending := rfl

@[simp] theorem setSlot_col : (s.setSlot n f).col n = { s.col n with slot := f } := by cases n <;> rfl

@[simp] theorem setSlot_col_ne (h : m ≠ n) : (s.setSlot n f).col m = s.col m := PerLane.get_set_ne _ _ h

end

section

variable (f : WalkUnit → WalkUnit)

@[simp] theorem modWalk_settings : (s.modWalk n f).settings = s.settings := rfl

@[simp] theorem modWalk_converter : (s.modWalk n f).converter = s.converter := rfl

@[simp] theorem modWalk_table : (s.modWalk n f).table = s.table := rfl

@[simp] theorem modWalk_catalogue : (s.modWalk n f).catalogue = s.catalogue := rfl

@[simp] theorem modWalk_naming : (s.modWalk n f).naming = s.naming := rfl

@[simp] theorem modWalk_port : (s.modWalk n f).port = s.port := rfl

@[simp] theorem modWalk_pending : (s.modWalk n f).pending = s.pending := rfl

@[simp] theorem modWalk_col : (s.modWalk n f).col n = { s.col n with walk := f (s.col n).walk } := by cases n <;> rfl

@[simp] theorem modWalk_col_ne (h : m ≠ n) : (s.modWalk n f).col m = s.col m := PerLane.get_set_ne _ _ h

end

section

variable (f : RollCall → RollCall)

@[simp] theorem modRoll_settings : (s.modRoll n f).settings = s.settings := rfl

@[simp] theorem modRoll_converter : (s.modRoll n f).converter = s.converter := rfl

@[simp] theorem modRoll_table : (s.modRoll n f).table = s.table := rfl

@[simp] theorem modRoll_catalogue : (s.modRoll n f).catalogue = s.catalogue := rfl

@[simp] theorem modRoll_naming : (s.modRoll n f).naming = s.naming := rfl

@[simp] theorem modRoll_port : (s.modRoll n f).port = s.port := rfl

@[simp] theorem modRoll_pending : (s.modRoll n f).pending = s.pending := rfl

@[simp] theorem modRoll_col : (s.modRoll n f).col n = { s.col n with roll := f (s.col n).roll } := by cases n <;> rfl

@[simp] theorem modRoll_col_ne (h : m ≠ n) : (s.modRoll n f).col m = s.col m := PerLane.get_set_ne _ _ h

end

section

variable (f : Converter → Converter)

@[simp] theorem modConverter_settings : (s.modConverter f).settings = s.settings := rfl

@[simp] theorem modConverter_converter : (s.modConverter f).converter = f s.converter := rfl

@[simp] theorem modConverter_table : (s.modConverter f).table = s.table := rfl

@[simp] theorem modConverter_catalogue : (s.modConverter f).catalogue = s.catalogue := rfl

@[simp] theorem modConverter_naming : (s.modConverter f).naming = s.naming := rfl

@[simp] theorem modConverter_port : (s.modConverter f).port = s.port := rfl

@[simp] theorem modConverter_pending : (s.modConverter f).pending = s.pending := rfl

@[simp] theorem modConverter_columns : (s.modConverter f).columns = s.columns := rfl

@[simp] theorem modConverter_col : (s.modConverter f).col m = s.col m := rfl

end

section

variable (f : DeviceTable → DeviceTable)

@[simp] theorem modTable_settings : (s.modTable f).settings = s.settings := rfl

@[simp] theorem modTable_converter : (s.modTable f).converter = s.converter := rfl

@[simp] theorem modTable_table : (s.modTable f).table = f s.table := rfl

@[simp] theorem modTable_catalogue : (s.modTable f).catalogue = s.catalogue := rfl

@[simp] theorem modTable_naming : (s.modTable f).naming = s.naming := rfl

@[simp] theorem modTable_port : (s.modTable f).port = s.port := rfl

@[simp] theorem modTable_pending : (s.modTable f).pending = s.pending := rfl

@[simp] theorem modTable_columns : (s.modTable f).columns = s.columns := rfl

@[simp] theorem modTable_col : (s.modTable f).col m = s.col m := rfl

end

section

variable (f : Naming → Naming)

@[simp] theorem modNaming_settings : (s.modNaming f).settings = s.settings := rfl

@[simp] theorem modNaming_converter : (s.modNaming f).converter = s.converter := rfl

@[simp] theorem modNaming_table : (s.modNaming f).table = s.table := rfl

@[simp] theorem modNaming_catalogue : (s.modNaming f).catalogue = s.catalogue := rfl

@[simp] theorem modNaming_naming : (s.modNaming f).naming = f s.naming := rfl

@[simp] theorem modNaming_port : (s.modNaming f).port = s.port := rfl

@[simp] theorem modNaming_pending : (s.modNaming f).pending = s.pending := rfl

@[simp] theorem modNaming_columns : (s.modNaming f).columns = s.columns := rfl

@[simp] theorem modNaming_col : (s.modNaming f).col m = s.col m := rfl

end

section

variable (f : Port → Port)

@[simp] theorem modPort_settings : (s.modPort f).settings = s.settings := rfl

@[simp] theorem modPort_converter : (s.modPort f).converter = s.converter := rfl

@[simp] theorem modPort_table : (s.modPort f).table = s.table := rfl

@[simp] theorem modPort_catalogue : (s.modPort f).catalogue = s.catalogue := rfl

@[simp] theorem modPort_naming : (s.modPort f).naming = s.naming := rfl

@[simp] theorem modPort_port : (s.modPort f).port = f s.port := rfl

@[simp] theorem modPort_pending : (s.modPort f).pending = s.pending := rfl

@[simp] theorem modPort_columns : (s.modPort f).columns = s.columns := rfl

@[simp] theorem modPort_col : (s.modPort f).col m = s.col m := rfl

end

end Machine.State

namespace Machine

section

variable (x : Notice) (s : State) (m : Lane)

@[simp] theorem raise_settings : (raise x s).settings = s.settings := rfl

@[simp] theorem raise_converter : (raise x s).converter = s.converter := rfl

@[simp] theorem raise_table : (raise x s).table = s.table := rfl

@[simp] theorem raise_catalogue : (raise x s).catalogue = s.catalogue := rfl

@[simp] theorem raise_naming : (raise x s).naming = s.naming := rfl

@[simp] theorem raise_port : (raise x s).port = { s.port with notices := raiseIn x s.port.notices } := rfl

@[simp] theorem raise_pending : (raise x s).pending = s.pending := rfl

@[simp] theorem raise_columns : (raise x s).columns = s.columns := rfl

@[simp] theorem raise_col : (raise x s).col m = s.col m := rfl

end

section

variable (r : Reply) (s : State) (m : Lane)

@[simp] theorem placeReply_settings : (placeReply r s).settings = s.settings := rfl

@[simp] theorem placeReply_converter : (placeReply r s).converter = s.converter := rfl

@[simp] theorem placeReply_table : (placeReply r s).table = s.table := rfl

@[simp] theorem placeReply_catalogue : (placeReply r s).catalogue = s.catalogue := rfl

@[simp] theorem placeReply_naming : (placeReply r s).naming = s.naming := rfl

@[simp] theorem placeReply_port : (placeReply r s).port = { s.port with replies := s.port.replies ++ [r] } := rfl

@[simp] theorem placeReply_pending : (placeReply r s).pending = s.pending := rfl

@[simp] theorem placeReply_columns : (placeReply r s).columns = s.columns := rfl

@[simp] theorem placeReply_col : (placeReply r s).col m = s.col m := rfl

end

end Machine

end Sys2Proof
end

