-- ==== Sys2Proof/Laws/Frames.lean ====
section
/-!
SUPPORT. How each shared operation on one lane changes the state: one lemma for each (`LaneMoves`), in the form that
carries what is known past the operation. What such an operation leaves alone is `LaneMoves.frame`.
-/

namespace Sys2Proof.Machine

/-! ## The updates that statements tell a next state by -/

section
variable (s : State) (n : Lane) (c : Column) (r : AttemptResult) (stages : List WireStage) (w : WalkUnit) (q : LineRequest)

@[simp] theorem withColumn_col : (s.withColumn n c).col n = c := PerLane.get_set_self _ _ _
@[simp] theorem withColumn_table : (s.withColumn n c).table = s.table := rfl
@[simp] theorem withColumn_port : (s.withColumn n c).port = s.port := rfl
@[simp] theorem withColumn_settings : (s.withColumn n c).settings = s.settings := rfl
@[simp] theorem handed_table : (s.handed n r stages).table = s.table := rfl
@[simp] theorem handed_walk : ((s.handed n r stages).col n).walk = (s.col n).walk := by simp [State.handed]
@[simp] theorem closed_table : (s.closed n stages).table = s.table := rfl
@[simp] theorem closed_walk : ((s.closed n stages).col n).walk = (s.col n).walk := by simp [State.closed]
@[simp] theorem walkAsks_table : (s.walkAsks n w q).table = s.table := rfl
@[simp] theorem walkAsks_walk : ((s.walkAsks n w q).col n).walk = w := by simp [State.walkAsks]

end

/-! ## Operations on one lane -/

/-- The ways in which the operations on one lane change the state: updates of the lane's column, of the shared
converter, table and naming unit, raises, and the ending of the lane's read. -/
inductive LaneMoves (n : Lane) (s : State) : State → Prop where
  | refl : LaneMoves n s s
  | modCol {t : State} (h : LaneMoves n s t) (f : Column → Column) : LaneMoves n s (t.modCol n f)
  | modConverter {t : State} (h : LaneMoves n s t) (f : Converter → Converter) : LaneMoves n s (t.modConverter f)
  | modTable {t : State} (h : LaneMoves n s t) (f : DeviceTable → DeviceTable) : LaneMoves n s (t.modTable f)
  | modNaming {t : State} (h : LaneMoves n s t) (f : Naming → Naming) : LaneMoves n s (t.modNaming f)
  | raise {t : State} (h : LaneMoves n s t) (x : Notice) : LaneMoves n s (raise x t)
  | unowe {t : State} (h : LaneMoves n s t) : LaneMoves n s (t.modPort fun p => { p with owed := p.owed.set n none })
  | reply {t : State} (h : LaneMoves n s t) (tag : Byte) (owed : t.port.owed.get n = some tag) (r : Reply) :
    LaneMoves n s (placeReply r (t.modPort fun p => { p with owed := p.owed.set n none }))

theorem LaneMoves.trans {n : Lane} {s t u : State} (h : LaneMoves n s t) (k : LaneMoves n t u) : LaneMoves n s u := by
  induction k with
  | refl => exact h
  | modCol _ f ih => exact ih.modCol f
  | modConverter _ f ih => exact ih.modConverter f
  | modTable _ f ih => exact ih.modTable f
  | modNaming _ f ih => exact ih.modNaming f
  | raise _ x ih => exact ih.raise x
  | unowe _ ih => exact ih.unowe
  | reply _ tag owed r ih => exact ih.reply tag owed r

/-- What the operations on one lane leave alone. -/
theorem LaneMoves.frame {n : Lane} {s t : State} (h : LaneMoves n s t) : LaneFrame n s t := by
  induction h with
  | refl => constructor <;> intros <;> rfl
  | modCol _ f ih => exact { ih with others := fun m hm => (PerLane.get_set_ne _ _ hm).trans (ih.others m hm) }
  | modConverter _ f ih => exact { ih with }
  | modTable _ f ih => exact { ih with }
  | modNaming _ f ih => exact { ih with }
  | raise _ x ih => exact { ih with }
  | unowe _ ih => exact { ih with owed := fun m hm => (PerLane.get_set_ne _ _ hm).trans (ih.owed m hm) }
  | reply _ _ _ _ ih => exact { ih with owed := fun m hm => (PerLane.get_set_ne _ _ hm).trans (ih.owed m hm) }

section

variable {n : Lane} {s t : State} (h : LaneMoves n s t)
include h

/-! ## Updates of one block -/

theorem modCtl_moves (f : LaneCtl → LaneCtl) : LaneMoves n s (t.modCtl n f) := h.modCol _

theorem modSupervisor_moves (f : Supervisor → Supervisor) : LaneMoves n s (t.modSupervisor n f) := h.modCol _

theorem modEngine_moves (f : Engine → Engine) : LaneMoves n s (t.modEngine n f) := h.modCol _

theorem modArbiter_moves (f : LineArbiter → LineArbiter) : LaneMoves n s (t.modArbiter n f) := h.modCol _

theorem setSlot_moves (x : TransferSlot) : LaneMoves n s (t.setSlot n x) := h.modCol _

theorem modWalk_moves (f : WalkUnit → WalkUnit) : LaneMoves n s (t.modWalk n f) := h.modCol _

theorem modRoll_moves (f : RollCall → RollCall) : LaneMoves n s (t.modRoll n f) := h.modCol _

theorem raiseRoster_moves (m : Lane) (a b c : Nat) : LaneMoves n s (raiseRoster m a b c t) := by
  unfold raiseRoster
  split
  · exact h
  · exact h.raise _

/-! ## Naming and the device table -/

theorem namingPass_moves : LaneMoves n s (namingPass t) :=
  .raise (.modNaming (h.modTable _) _) _

theorem passDue_moves : LaneMoves n s (passDue t) := by
  unfold passDue
  split
  · exact h.modNaming _
  · exact namingPass_moves h

theorem turnAway_moves : LaneMoves n s (turnAway n t) := raiseRoster_moves (h.modTable _) _ _ _ _

theorem removeCounted_moves (m : Lane) (gone : List EntryKey) : LaneMoves n s (removeCounted m gone t) :=
  raiseRoster_moves (h.modTable _) _ _ _ _

theorem removeAway_moves : LaneMoves n s (removeAway n t) := removeCounted_moves h _ _

theorem countLineError_moves (k : EntryKey) : LaneMoves n s (countLineError k t) := by
  unfold countLineError
  split
  · exact h
  · exact raiseRoster_moves (h.modTable _) _ _ _ _

theorem evict_moves (k : EntryKey) : LaneMoves n s (evict k t) := removeCounted_moves h _ _

/-! ## The lane controller -/

theorem transition_moves (entered : LaneState) (why : Reason) (carried : Option (SupplyClass × Int)) :
    LaneMoves n s (transition n entered why carried t) := by
  unfold transition
  simp only
  split
  · exact passDue_moves (.raise (modCtl_moves h _) _)
  · exact .raise (modCtl_moves h _) _

theorem openSwitch_moves : LaneMoves n s (openSwitch n t) := .modConverter (modSupervisor_moves h _) _

theorem placeRequest_moves (q : Requester) (r : LineRequest) : LaneMoves n s (placeRequest n q r t) :=
  modArbiter_moves h _

theorem beginAttempt_moves : LaneMoves n s (beginAttempt n t) := modEngine_moves h _

theorem lineGrant_moves : LaneMoves n s (lineGrant n t) := by
  unfold lineGrant
  split
  · split
    · exact h
    · exact beginAttempt_moves (modEngine_moves (modArbiter_moves h _) _)
  · exact h

theorem abortLine_moves : LaneMoves n s (abortLine n t) := modArbiter_moves (modEngine_moves h _) _

theorem endRead_moves (st : Status) (r : Read) : LaneMoves n s (endRead n st r t) := by
  unfold endRead
  simp only
  split
  · exact (setSlot_moves h .free).unowe
  · rename_i tag owed
    exact (setSlot_moves h .free).reply tag owed _

theorem abortRead_moves : LaneMoves n s (abortRead n t) := by
  unfold abortRead
  split
  · exact h
  · exact endRead_moves h _ _

theorem startWalk_moves : LaneMoves n s (startWalk n t) := placeRequest_moves (modWalk_moves h _) _ _

theorem abortWalk_moves : LaneMoves n s (abortWalk n t) := by
  unfold abortWalk
  split
  · exact h
  · exact raiseRoster_moves (modWalk_moves h _) _ _ _ _

theorem startRoll_moves : LaneMoves n s (startRoll n t) := modRoll_moves h _

theorem stopRoll_moves : LaneMoves n s (stopRoll n t) := modRoll_moves h _

theorem leavePowered_moves : LaneMoves n s (leavePowered n t) :=
  abortRead_moves (abortLine_moves (stopRoll_moves (abortWalk_moves (modCtl_moves (openSwitch_moves h) _))))

theorem startHold_moves : LaneMoves n s (startHold n t) := by
  unfold startHold
  split
  · exact removeAway_moves h
  · exact modCtl_moves h _

theorem departPowered_moves : LaneMoves n s (departPowered n t) :=
  startHold_moves (turnAway_moves (leavePowered_moves h))

theorem enterSettling_moves (why : Reason) : LaneMoves n s (enterSettling n why t) :=
  transition_moves (modRoll_moves (modCtl_moves h _) _) _ _ _

theorem placePoint_moves : LaneMoves n s (placePoint n t) := h.modConverter _

theorem enterSignature_moves (why : Reason) : LaneMoves n s (enterSignature n why t) :=
  transition_moves (placePoint_moves (modCtl_moves h _)) _ _ _

theorem enterAwaitGrant_moves (why : Reason) (carried : Option (SupplyClass × Int)) :
    LaneMoves n s (enterAwaitGrant n why carried t) :=
  transition_moves (modCtl_moves h _) _ _ _

theorem enterPowering_moves (why : Reason) (carried : Option (SupplyClass × Int)) :
    LaneMoves n s (enterPowering n why carried t) :=
  transition_moves (modSupervisor_moves h _) _ _ _

theorem enterWalking_moves (why : Reason) : LaneMoves n s (enterWalking n why t) :=
  transition_moves (startWalk_moves (modCtl_moves h _)) _ _ _

theorem leaveReady_moves : LaneMoves n s (leaveReady n t) :=
  abortRead_moves (abortLine_moves (stopRoll_moves (modCtl_moves h _)))

theorem enterReady_moves : LaneMoves n s (enterReady n t) := transition_moves (startRoll_moves h) _ _ _

theorem enterParting_moves : LaneMoves n s (enterParting n t) := transition_moves (modCtl_moves h _) _ _ _

theorem enterFault_moves (code : FaultCode) (c u : Code) : LaneMoves n s (enterFault n code c u t) :=
  transition_moves (.raise (modCtl_moves h _) _) _ _ _

theorem faultPowered_moves (code : FaultCode) (c u : Code) : LaneMoves n s (faultPowered n code c u t) := by
  unfold faultPowered
  split
  · exact enterFault_moves (departPowered_moves h) _ _ _
  · exact h

theorem withdrawJobs_moves : LaneMoves n s (withdrawJobs n t) := h.modConverter _

theorem setReading_moves (x : Reading) : LaneMoves n s (setReading n x t) := modCtl_moves h _

theorem openAction_moves : LaneMoves n s (openAction n t) := by
  unfold openAction
  split
  · exact h
  · exact h
  · exact transition_moves (modCtl_moves h _) _ _ _
  · exact enterParting_moves (withdrawJobs_moves (modCtl_moves h _))
  · exact enterParting_moves (modCtl_moves h _)
  · exact enterParting_moves (departPowered_moves h)
  · exact enterParting_moves (departPowered_moves h)
  · exact enterParting_moves (departPowered_moves h)
  · exact modCtl_moves h _
  · exact enterParting_moves h

theorem mateAction_moves : LaneMoves n s (mateAction n t) := by
  unfold mateAction
  split <;> first | exact h | exact enterSettling_moves h _

/-! ## Signature and supply -/

theorem actOnValid_moves : LaneMoves n s (actOnValid n t) := by
  unfold actOnValid
  simp only
  split
  · split
    · exact enterPowering_moves (modCtl_moves h _) _ _
    · exact enterAwaitGrant_moves (modCtl_moves h _) _ _
  · split
    · exact enterPowering_moves h _ _
    · exact enterAwaitGrant_moves h _ _

theorem failSeries_moves (final : FinalVerdict) (code : FaultCode) : LaneMoves n s (failSeries n final code t) :=
  enterFault_moves (withdrawJobs_moves (modCtl_moves h _)) _ _ _

theorem continueSeries_moves : LaneMoves n s (continueSeries n t) := by
  unfold continueSeries
  simp only
  split
  · exact placePoint_moves h
  · exact actOnValid_moves (modCtl_moves h _)
  · exact failSeries_moves h _ _
  · split
    · exact placePoint_moves (modCtl_moves h _)
    · exact failSeries_moves h _ _
  · split
    · exact placePoint_moves (modCtl_moves h _)
    · exact failSeries_moves h _ _

theorem pointResult_moves (code : Code) : LaneMoves n s (pointResult n code t) :=
  continueSeries_moves (modCtl_moves h _)

theorem supplyFault_moves (code : FaultCode) : LaneMoves n s (supplyFault n code t) :=
  faultPowered_moves (openSwitch_moves h) _ _ _

theorem powerGood_moves (u : Code) : LaneMoves n s (powerGood n u t) :=
  .raise (modCtl_moves (modSupervisor_moves h _) _) _

theorem decidePowerGood_moves (u : Code) : LaneMoves n s (decidePowerGood n u t) := by
  unfold decidePowerGood
  split
  · exact powerGood_moves h _
  · exact faultPowered_moves h _ _ _

theorem policeVoltage_moves (u : Code) : LaneMoves n s (policeVoltage n u t) := by
  unfold policeVoltage
  simp only
  split
  · exact supplyFault_moves (modSupervisor_moves h _) _
  · exact modSupervisor_moves h _

theorem sampleResult_moves (c u : Code) : LaneMoves n s (sampleResult n c u t) := by
  unfold sampleResult
  simp only
  split
  · exact supplyFault_moves (modSupervisor_moves h _) _
  · split
    · exact decidePowerGood_moves (modSupervisor_moves h _) _
    · exact policeVoltage_moves (modSupervisor_moves h _) _
    · exact modSupervisor_moves h _
    · exact modSupervisor_moves h _

theorem tripCheck_moves (mA : Nat) : LaneMoves n s (tripCheck n mA t) := by
  unfold tripCheck
  split
  · exact supplyFault_moves h _
  · exact h

theorem inrushExpired_moves : LaneMoves n s (inrushExpired n t) := .modConverter (modSupervisor_moves h _) _

theorem pointHandled_moves (live : Bool) (code : Code) (contact : Contact) :
    LaneMoves n s (pointHandled n live code contact t) := by
  unfold pointHandled
  simp only
  split
  · exact openAction_moves (setReading_moves h _)
  · split
    · exact pointResult_moves (setReading_moves h _) _
    · exact setReading_moves h _

theorem settleExpired_moves : LaneMoves n s (settleExpired n t) := by
  unfold settleExpired
  split <;> first | exact h | exact enterSignature_moves h _ | exact transition_moves h _ _ _

/-! ## The walk unit -/

theorem noteReason_moves (x : WalkReason) : LaneMoves n s (noteReason n x t) := modWalk_moves h _

theorem flagDepthLimit_moves (j : Nat) : LaneMoves n s (flagDepthLimit n t j) := noteReason_moves (h.modTable _) _

theorem flagLegFailed_moves (j : Nat) : LaneMoves n s (flagLegFailed n j t) := noteReason_moves (h.modTable _) _

theorem endWalk_moves : LaneMoves n s (endWalk n t) :=
  enterReady_moves (raiseRoster_moves (modWalk_moves (h.modTable _) _) _ _ _ _)

theorem finishNext_moves (done : Option (Nat × Nat)) : LaneMoves n s (finishNext n done t) := by
  unfold finishNext
  split
  · exact placeRequest_moves h _ _
  · exact endWalk_moves h

theorem enterFinishing_moves : LaneMoves n s (enterFinishing n t) := finishNext_moves (modWalk_moves h _) _

theorem stopWalk_moves (x : WalkReason) : LaneMoves n s (stopWalk n x t) := enterFinishing_moves (noteReason_moves h _)

theorem finishingResult_moves (j : Nat) (p : TransactionReport) : LaneMoves n s (finishingResult n j p t) := by
  unfold finishingResult
  simp only
  split
  · exact finishNext_moves h _
  · exact finishNext_moves (flagLegFailed_moves h _) _

theorem placeRound_moves : LaneMoves n s (placeRound n t) := placeRequest_moves (modWalk_moves h _) _ _

theorem startRounds_moves : LaneMoves n s (startRounds n t) := placeRound_moves (modWalk_moves h _)

theorem openLegA_moves (j : Nat) : LaneMoves n s (openLegA n j t) := placeRequest_moves (modWalk_moves h _) _ _

theorem openLegB_moves (j : Nat) : LaneMoves n s (openLegB n j t) := placeRequest_moves (modWalk_moves h _) _ _

theorem closeLegs_moves (j : Nat) : LaneMoves n s (closeLegs n j t) := placeRequest_moves (modWalk_moves h _) _ _

theorem segmentDone_moves : LaneMoves n s (segmentDone n t) := by
  unfold segmentDone
  split
  · exact enterFinishing_moves h
  · split
    · exact openLegB_moves h _
    · exact closeLegs_moves h _

omit h in
theorem flagEach_moves (js : List Nat) : ∀ {t : State}, LaneMoves n s t → LaneMoves n s (js.foldl (flagDepthLimit n) t) := by
  induction js with
  | nil => exact fun h => h
  | cons j js ih => exact fun h => ih (flagDepthLimit_moves h j)

theorem takeJunction_moves : LaneMoves n s (takeJunction n t) := by
  unfold takeJunction
  simp only
  split
  · exact segmentDone_moves h
  · split
    · exact openLegA_moves (modWalk_moves h _) _
    · exact segmentDone_moves (modWalk_moves (flagEach_moves _ h) _)

theorem passLeg_moves (j : Nat) (leg : Leg) : LaneMoves n s (passLeg n j leg t) := by
  cases leg
  · exact openLegB_moves (flagLegFailed_moves h _) _
  · exact closeLegs_moves (flagLegFailed_moves h _) _

theorem popFrame_moves : LaneMoves n s (popFrame n t) := takeJunction_moves (modWalk_moves h _)

theorem junctionResult_moves (r : LineRequest) (p : TransactionReport) : LaneMoves n s (junctionResult n r p t) := by
  unfold junctionResult
  split
  · split
    · exact popFrame_moves h
    · exact stopWalk_moves (flagLegFailed_moves h _) _
  · split
    · exact startRounds_moves h
    · exact passLeg_moves h _ _

theorem judgeFailedRound_moves : LaneMoves n s (judgeFailedRound n t) := by
  unfold judgeFailedRound
  split
  · exact takeJunction_moves (noteReason_moves h _)
  · exact placeRound_moves h

theorem failedRound_moves : LaneMoves n s (failedRound n t) := judgeFailedRound_moves (modWalk_moves h _)

theorem placeBind_moves (b : PendingBinding) : LaneMoves n s (placeBind n b t) :=
  placeRequest_moves (modWalk_moves h _) _ _

theorem allocateSlot_moves (j : Nat) : LaneMoves n s (allocateSlot n j t).state := by
  unfold allocateSlot
  split
  · exact h
  · split
    · exact evict_moves h _
    · exact h

theorem allocate_moves : LaneMoves n s (allocate n t).state := by
  unfold allocate
  split
  · exact allocateSlot_moves h _
  · split
    · exact allocateSlot_moves (evict_moves h _) _
    · exact h

theorem bindNew_moves (identity : Identity) (cls : Byte) : LaneMoves n s (bindNew n identity cls t) := by
  have frame := allocate_moves h
  unfold bindNew
  split <;> rename_i eq <;> rw [eq] at frame
  · exact placeBind_moves frame _
  · exact stopWalk_moves frame _
  · exact stopWalk_moves frame _

theorem winningRound_moves (record : List Byte) : LaneMoves n s (winningRound n record t) := by
  unfold winningRound
  simp only
  split
  · exact bindNew_moves h _ _
  · split
    · exact placeBind_moves h _
    · exact failedRound_moves h
    · exact failedRound_moves h

theorem roundResult_moves (p : TransactionReport) : LaneMoves n s (roundResult n p t) := by
  unfold roundResult
  split
  · exact winningRound_moves h _
  · split
    · exact takeJunction_moves h
    · exact failedRound_moves h

theorem bindResult_moves (b : PendingBinding) (p : TransactionReport) : LaneMoves n s (bindResult n b p t) := by
  unfold bindResult
  split
  · exact placeRound_moves (modWalk_moves (h.modTable _) _)
  · exact placeRequest_moves h _ _

theorem bindingResult_moves (r : LineRequest) (p : TransactionReport) : LaneMoves n s (bindingResult n r p t) := by
  unfold bindingResult
  split
  · exact bindResult_moves h _ _
  · exact failedRound_moves h

theorem openingResult_moves (p : TransactionReport) : LaneMoves n s (openingResult n p t) := by
  unfold openingResult
  simp only
  split
  · split
    · exact placeRequest_moves (modWalk_moves h _) _ _
    · exact stopWalk_moves (turnAway_moves (modWalk_moves h _)) _
  · exact startRounds_moves (turnAway_moves h)

theorem walkResult_moves (tr : Transaction) (p : TransactionReport) : LaneMoves n s (walkResult n tr p t) := by
  unfold walkResult
  split
  · exact h
  · exact openingResult_moves h _
  · exact roundResult_moves h _
  · exact bindingResult_moves h _ _
  · exact junctionResult_moves h _ _
  · exact finishingResult_moves h _ _

/-! ## Roll call and the transfer slot -/

theorem placeProbe_moves (j : Nat) : LaneMoves n s (placeProbe n j t) := placeRequest_moves (modRoll_moves h _) _ _

theorem restRoll_moves : LaneMoves n s (restRoll n t) := modRoll_moves h _

theorem startWork_moves : LaneMoves n s (startWork n t) := by
  unfold startWork
  split
  · exact placeRequest_moves (modRoll_moves h _) _ _
  · split
    · exact placeProbe_moves h _
    · exact restRoll_moves h

theorem endWork_moves : LaneMoves n s (endWork n t) := by
  unfold endWork
  split
  · exact startWork_moves (modRoll_moves h _)
  · exact restRoll_moves h

theorem probeNext_moves : LaneMoves n s (probeNext n t) := by
  unfold probeNext
  split
  · exact placeProbe_moves h _
  · exact endWork_moves h

theorem periodExpiry_moves : LaneMoves n s (periodExpiry n t) := by
  unfold periodExpiry
  simp only
  split
  · exact startWork_moves (modRoll_moves h _)
  · exact modRoll_moves (modRoll_moves h _) _
  · exact modRoll_moves (modRoll_moves h _) _
  · exact h
  · exact h

theorem sweepRewalk_moves : LaneMoves n s (sweepRewalk n t) := enterWalking_moves (leaveReady_moves h) _

theorem takeSweepAnswer_moves : LaneMoves n s (takeSweepAnswer n t) := by
  unfold takeSweepAnswer
  split
  · exact sweepRewalk_moves h
  · exact modCtl_moves h _

theorem sweepResult_moves (p : TransactionReport) : LaneMoves n s (sweepResult n p t) := by
  unfold sweepResult
  split
  · exact takeSweepAnswer_moves (modRoll_moves h _)
  · exact probeNext_moves (modRoll_moves h _)

theorem writeProbe_moves (j : Nat) (p : TransactionReport) : LaneMoves n s (writeProbe n j p t) := by
  unfold writeProbe
  split
  · exact h
  · exact raiseRoster_moves (h.modTable _) _ _ _ _

theorem probeResult_moves (p : TransactionReport) : LaneMoves n s (probeResult n p t) := by
  unfold probeResult
  split
  · exact probeNext_moves (writeProbe_moves h _ _)
  · exact probeNext_moves h

theorem rollResult_moves (p : TransactionReport) : LaneMoves n s (rollResult n p t) := by
  unfold rollResult
  split
  · exact sweepResult_moves h _
  · exact probeResult_moves h _
  · exact h
  · exact h
  · exact h

theorem placeChunk_moves (r : Read) : LaneMoves n s (placeChunk n r t) := placeRequest_moves h _ _

theorem finishRead_moves (st : Status) (r : Read) : LaneMoves n s (finishRead n st r t) := by
  unfold finishRead
  simp only
  split
  · exact sweepRewalk_moves (endRead_moves h _ _)
  · exact endRead_moves h _ _

theorem chunkDone_moves (r : Read) (bytes : List Byte) : LaneMoves n s (chunkDone n r bytes t) := by
  unfold chunkDone
  simp only
  split
  · exact finishRead_moves (setSlot_moves h _) _ _
  · exact placeChunk_moves (setSlot_moves h _) _

theorem transferResult_moves (p : TransactionReport) : LaneMoves n s (transferResult n p t) := by
  unfold transferResult
  split
  · exact h
  · split
    · exact chunkDone_moves h _ _
    · exact finishRead_moves h _ _
    · exact finishRead_moves h _ _

/-! ## The line engine -/

theorem handResult_moves (tr : Transaction) (p : TransactionReport) : LaneMoves n s (handResult n tr p t) := by
  unfold handResult
  split
  · exact transferResult_moves h _
  · split
    · exact rollResult_moves h _
    · exact walkResult_moves h _ _

theorem endTransaction_moves (tr : Transaction) (p : TransactionReport) : LaneMoves n s (endTransaction n tr p t) :=
  lineGrant_moves (handResult_moves (modEngine_moves h _) _ _)

theorem retryOrEnd_moves (tr : Transaction) (r : AttemptResult) : LaneMoves n s (retryOrEnd n tr r t) := by
  unfold retryOrEnd
  split
  · exact beginAttempt_moves (modEngine_moves h _)
  · exact endTransaction_moves h _ _

theorem failAttempt_moves (tr : Transaction) (r : AttemptResult) : LaneMoves n s (failAttempt n tr r t) :=
  countLineError_moves (modEngine_moves h _) _

theorem handAttempt_moves (r : AttemptResult) (stages : List WireStage) : LaneMoves n s (handAttempt n r stages t) :=
  modEngine_moves h _

theorem stopAttempt_moves (tr : Transaction) (r : AttemptResult) : LaneMoves n s (stopAttempt n tr r t) := by
  unfold stopAttempt
  split
  · exact endTransaction_moves h _ _
  · split
    · exact endTransaction_moves h _ _
    · exact retryOrEnd_moves (failAttempt_moves h _ _) _ _

theorem breakAttempt_moves (tr : Transaction) (r : AttemptResult) (stages : List WireStage) :
    LaneMoves n s (breakAttempt n tr r stages t) :=
  modEngine_moves (failAttempt_moves (handAttempt_moves h _ _) _ _) _

theorem driveClosing_moves (stages : List WireStage) : LaneMoves n s (driveClosing n stages t) := modEngine_moves h _

theorem endClosing_moves : LaneMoves n s (endClosing n t) := by
  unfold endClosing
  split
  · exact lineGrant_moves (modEngine_moves h _)
  · exact retryOrEnd_moves h _ _

theorem stuckLine_moves : LaneMoves n s (stuckLine n t) := by
  unfold stuckLine
  simp only
  split <;> first | exact faultPowered_moves (modEngine_moves h _) _ _ _ | exact lineGrant_moves (modEngine_moves h _)

end

end Sys2Proof.Machine
end

