-- ==== Sys2Proof/Laws/PerInstr.lean ====
section
/-!
SUPPORT. For every command as it is written: the length of its host frame, 3 bytes and the payload of R175's table.
-/

namespace Sys2Proof.Laws.FrameLength

open Sys2Proof.Machine

/-- R175: the payload length of a request; none for an event. -/
def payload : Instr → Option Nat
  | .status _ => some 0
  | .configure _ pairs => some (3 * pairs.length)
  | .grant _ _ => some 2
  | .rewalk _ _ => some 2
  | .clear _ _ => some 2
  | .laneRead _ _ => some 1
  | .roster _ _ _ => some 2
  | .deviceRead _ _ _ _ _ => some 4
  | .deviceClear _ _ _ => some 2
  | .catTool _ _ _ _ => some 11
  | .catSlot _ _ _ => some 22
  | .catDrop _ _ => some 1
  | .catRead _ _ _ => some 2
  | .nameNow _ => some 0
  | .matchRead _ => some 0
  | .restart _ => some 0
  | .mateEvent _ _ => none
  | .openEvent _ _ => none
  | .tripEvent _ _ => none
  | .settleTimerExpiry _ => none
  | .grantWindowExpiry _ => none
  | .inrushWindowExpiry _ _ => none
  | .sampleDueInstant _ => none
  | .bootWaitExpiry _ => none
  | .remateHoldExpiry _ => none
  | .pointJobCompletion _ _ => none
  | .sampleJobCompletion _ _ => none
  | .idleCheckPassed _ => none
  | .lineStuck _ => none
  | .stall _ _ => none
  | .collision _ _ => none
  | .attemptEnd _ _ _ => none
  | .closingStop _ => none
  | .closingGivenUp _ => none
  | .rollCallPeriodExpiry _ => none
  | .chipSelectFall => none
  | .chipSelectRise _ => none
  | .hardwareReset _ _ _ => none

/-- A well-formed request's frame is 3 bytes longer than its payload; an event has no frame. -/
def Statement (c : Instr) : Prop := c.wf = true → (frameOf c).map List.length = (payload c).map (· + 3)

theorem length_identityBytes (x : Identity) : (identityBytes x).length = 6 := rfl

theorem length_pairs (pairs : List SettingPair) : (pairs.flatMap pairBytes).length = 3 * pairs.length := by
  induction pairs with
  | nil => rfl
  | cons p ps ih => simp only [List.flatMap_cons, List.length_append, ih, List.length_cons]; simp [pairBytes]; omega

theorem mateEvent (n : Lane) (x : Contact) : Statement (.mateEvent n x) := fun _ => rfl
theorem openEvent (n : Lane) (x : Contact) : Statement (.openEvent n x) := fun _ => rfl
theorem tripEvent (n : Lane) (x : Nat) : Statement (.tripEvent n x) := fun _ => rfl
theorem settleTimerExpiry (n : Lane) : Statement (.settleTimerExpiry n) := fun _ => rfl
theorem grantWindowExpiry (n : Lane) : Statement (.grantWindowExpiry n) := fun _ => rfl
theorem inrushWindowExpiry (n : Lane) (x : Nat) : Statement (.inrushWindowExpiry n x) := fun _ => rfl
theorem sampleDueInstant (n : Lane) : Statement (.sampleDueInstant n) := fun _ => rfl
theorem bootWaitExpiry (n : Lane) : Statement (.bootWaitExpiry n) := fun _ => rfl
theorem remateHoldExpiry (n : Lane) : Statement (.remateHoldExpiry n) := fun _ => rfl
theorem pointJobCompletion (x : Code) (y : Contact) : Statement (.pointJobCompletion x y) := fun _ => rfl
theorem sampleJobCompletion (x y : Code) : Statement (.sampleJobCompletion x y) := fun _ => rfl
theorem idleCheckPassed (n : Lane) : Statement (.idleCheckPassed n) := fun _ => rfl
theorem lineStuck (n : Lane) : Statement (.lineStuck n) := fun _ => rfl
theorem stall (n : Lane) (x : StallSlot) : Statement (.stall n x) := fun _ => rfl
theorem collision (n : Lane) (x : CollisionSlot) : Statement (.collision n x) := fun _ => rfl
theorem attemptEnd (n : Lane) (x : List Bool) (y : List Byte) : Statement (.attemptEnd n x y) := fun _ => rfl
theorem closingStop (n : Lane) : Statement (.closingStop n) := fun _ => rfl
theorem closingGivenUp (n : Lane) : Statement (.closingGivenUp n) := fun _ => rfl
theorem rollCallPeriodExpiry (n : Lane) : Statement (.rollCallPeriodExpiry n) := fun _ => rfl
theorem chipSelectFall : Statement (.chipSelectFall) := fun _ => rfl
theorem chipSelectRise (x : List Bool) : Statement (.chipSelectRise x) := fun _ => rfl
theorem hardwareReset (x : ResetMoment) (y : PerLane Contact) (z : Bool) : Statement (.hardwareReset x y z) := fun _ => rfl
theorem status (tag : Byte) : Statement (.status tag) := fun _ => rfl
theorem configure (tag : Byte) (pairs : List SettingPair) : Statement (.configure tag pairs) := fun _ => by
  have : (pairs.flatMap pairBytes).length = 3 * pairs.length := length_pairs pairs
  simp only [frameOf, requestOf, hostFrame, payload, Option.map, List.length_append, this, List.length_cons,
    List.length_nil, Nat.add_comm]
theorem grant (tag a : Byte) : Statement (.grant tag a) := fun _ => rfl
theorem rewalk (tag a : Byte) : Statement (.rewalk tag a) := fun _ => rfl
theorem clear (tag a : Byte) : Statement (.clear tag a) := fun _ => rfl
theorem laneRead (tag a : Byte) : Statement (.laneRead tag a) := fun _ => rfl
theorem roster (tag a b : Byte) : Statement (.roster tag a b) := fun _ => rfl
theorem deviceRead (tag a b c d : Byte) : Statement (.deviceRead tag a b c d) := fun _ => rfl
theorem deviceClear (tag a b : Byte) : Statement (.deviceClear tag a b) := fun _ => rfl
theorem catTool (tag number : Byte) (key : Identity) (expectations : PerLane Byte) :
    Statement (.catTool tag number key expectations) := fun _ => rfl
theorem catSlot (tag number : Byte) (slot : SlotBytes) : Statement (.catSlot tag number slot) := fun h => by
  have : slot.name.length = 8 := by simpa [Instr.wf] using h
  simp [frameOf, requestOf, hostFrame, payload, slotBytes, length_identityBytes, this]
theorem catDrop (tag a : Byte) : Statement (.catDrop tag a) := fun _ => rfl
theorem catRead (tag a b : Byte) : Statement (.catRead tag a b) := fun _ => rfl
theorem nameNow (tag : Byte) : Statement (.nameNow tag) := fun _ => rfl
theorem matchRead (tag : Byte) : Statement (.matchRead tag) := fun _ => rfl
theorem restart (tag : Byte) : Statement (.restart tag) := fun _ => rfl

end Sys2Proof.Laws.FrameLength
end

