-- ==== Sys2Proof/Laws/Requests.lean ====
section
/-!
SUPPORT. What the handling of each request leaves alone: the lane operations of the requests (`LaneMoves`), and the
queue of waiting commands.
-/

namespace Sys2Proof.Machine

/-! ## Lane operations of the requests -/

section

variable {n : Lane} {s t : State} (h : LaneMoves n s t)
include h

theorem removeLane_moves : LaneMoves n s (removeLane n t) := removeCounted_moves h _ _

theorem disableLane_moves : LaneMoves n s (disableLane n t) := by
  unfold disableLane
  simp only
  split
  · exact transition_moves (modCtl_moves (removeLane_moves (leavePowered_moves (withdrawJobs_moves (modCtl_moves h _)))) _) _ _ _
  · exact transition_moves (modCtl_moves (removeLane_moves (withdrawJobs_moves (modCtl_moves h _))) _) _ _ _

theorem enableLane_moves : LaneMoves n s (enableLane n t) := by
  unfold enableLane
  simp only
  split
  · exact enterSettling_moves (transition_moves h _ _ _) _
  · exact transition_moves h _ _ _

theorem grantLane_moves : LaneMoves n s (grantLane n t) := by
  unfold grantLane
  split
  · exact enterPowering_moves (modCtl_moves h _) _ _
  · exact enterSignature_moves (modCtl_moves h _) _

theorem rewalkLane_moves : LaneMoves n s (rewalkLane n t) :=
  lineGrant_moves (enterWalking_moves (modRoll_moves (leaveReady_moves h) _) _)

theorem clearLane_moves : LaneMoves n s (clearLane n t) := enterSettling_moves (modCtl_moves h _) _

theorem settleIfMated_moves : LaneMoves n s (settleIfMated t n) := by
  unfold settleIfMated
  split
  · exact enterSettling_moves h _
  · exact h

end

theorem startRead_moves (n : Lane) (tag : Byte) (r : Read) (s : State) :
    LaneMoves n (oweRead n tag r s) (startRead tag n r s) :=
  lineGrant_moves (placeChunk_moves .refl _)

/-! ## The queue of waiting commands -/

section

variable (s : State)

@[simp] theorem answer_pending (tag code : Byte) (st : Status) (payload : List Byte) :
    (answer tag code st payload s).pending = s.pending := rfl

@[simp] theorem answerMalformed_pending (tag code : Byte) : (answerMalformed tag code s).pending = s.pending := rfl

@[simp] theorem passDue_pending : (passDue s).pending = s.pending := (passDue_moves (n := .one) .refl).frame.pending

@[simp] theorem applyCatalogue_pending (tag code : Byte) (a : CatalogueAnswer) :
    (applyCatalogue tag code a s).pending = s.pending := by
  unfold applyCatalogue
  split
  · rfl
  · simp

@[simp] theorem settingEffect_pending (x : SettingId) (v : Nat) : (settingEffect x v s).pending = s.pending := by
  unfold settingEffect
  split
  · split
    · split
      · rfl
      · exact (disableLane_moves .refl).frame.pending
    · split
      · exact (enableLane_moves .refl).frame.pending
      · rfl
  · split <;> rfl
  all_goals rfl

@[simp] theorem applyPair_pending (p : SettingPair) : (applyPair s p).pending = s.pending := by
  unfold applyPair
  split
  · rfl
  · exact settingEffect_pending s _ _

theorem applyPairs_pending (ps : List SettingPair) : ∀ s : State, (ps.foldl applyPair s).pending = s.pending := by
  induction ps with
  | nil => exact fun _ => rfl
  | cons p ps ih => exact fun s => (ih _).trans (applyPair_pending s p)

@[simp] theorem takeConfigure_pending (tag : Byte) (pairs : List SettingPair) :
    (takeConfigure tag pairs s).pending = s.pending := by
  unfold takeConfigure
  split
  · rfl
  · exact applyPairs_pending _ _

theorem laneControl_pending (tag lane : Byte) (taken : LaneState) (act : Lane → State → State)
    (h : ∀ n, (act n s).pending = s.pending) : (laneControl tag lane taken act s).pending = s.pending := by
  unfold laneControl
  split
  · rfl
  · split
    · exact h _
    · rfl

@[simp] theorem takeGrant_pending (tag lane : Byte) : (takeGrant tag lane s).pending = s.pending :=
  laneControl_pending _ _ _ _ _ fun _ => (grantLane_moves .refl).frame.pending

@[simp] theorem takeRewalk_pending (tag lane : Byte) : (takeRewalk tag lane s).pending = s.pending :=
  laneControl_pending _ _ _ _ _ fun _ => (rewalkLane_moves .refl).frame.pending

@[simp] theorem takeClear_pending (tag lane : Byte) : (takeClear tag lane s).pending = s.pending :=
  laneControl_pending _ _ _ _ _ fun _ => (clearLane_moves .refl).frame.pending

@[simp] theorem takeStatus_pending (tag : Byte) : (takeStatus tag s).pending = s.pending := rfl

@[simp] theorem takeLaneRead_pending (tag lane : Byte) : (takeLaneRead tag lane s).pending = s.pending := by
  unfold takeLaneRead
  split <;> rfl

@[simp] theorem takeRoster_pending (tag lane handle : Byte) : (takeRoster tag lane handle s).pending = s.pending := by
  unfold takeRoster
  split <;> rfl

@[simp] theorem takeDeviceClear_pending (tag lane handle : Byte) :
    (takeDeviceClear tag lane handle s).pending = s.pending := by
  unfold takeDeviceClear
  split
  · split
    · rfl
    · exact (raiseRoster_moves (n := .one) (.modTable .refl _) _ _ _ _).frame.pending
  · rfl

@[simp] theorem takeDeviceRead_pending (tag lane handle offset count : Byte) :
    (takeDeviceRead tag lane handle offset count s).pending = s.pending := by
  unfold takeDeviceRead
  split
  · split
    · rfl
    · exact (startRead_moves _ _ _ s).frame.pending
  · rfl

@[simp] theorem takeCatTool_pending (tag number : Byte) (key : Identity) (x : PerLane Byte) :
    (takeCatTool tag number key x s).pending = s.pending := applyCatalogue_pending _ _ _ _

@[simp] theorem takeCatSlot_pending (tag number : Byte) (x : SlotBytes) :
    (takeCatSlot tag number x s).pending = s.pending := by
  unfold takeCatSlot
  split
  · exact applyCatalogue_pending _ _ _ _
  · rfl

@[simp] theorem takeCatDrop_pending (tag number : Byte) : (takeCatDrop tag number s).pending = s.pending :=
  applyCatalogue_pending _ _ _ _

@[simp] theorem takeCatRead_pending (tag number start : Byte) : (takeCatRead tag number start s).pending = s.pending :=
  rfl

@[simp] theorem takeNameNow_pending (tag : Byte) : (takeNameNow tag s).pending = s.pending := by simp [takeNameNow]

@[simp] theorem takeMatchRead_pending (tag : Byte) : (takeMatchRead tag s).pending = s.pending := rfl

@[simp] theorem settleIfMated_pending (n : Lane) : (settleIfMated s n).pending = s.pending :=
  (settleIfMated_moves .refl).frame.pending

@[simp] theorem comeUp_pending (cause : ResetCause) : (comeUp cause s).pending = s.pending := by
  simp [comeUp, Lane.all]

@[simp] theorem takeRestart_pending (tag : Byte) : (takeRestart tag s).pending = s.pending := by
  simp [takeRestart, State.restarted]

theorem accept_pending (handle : State → State) (h : (handle s).pending = s.pending) :
    (accept handle s).pending = s.pending := by
  unfold accept
  split
  · rfl
  · split
    · rfl
    · exact h

@[simp] theorem holdReset_pending : (holdReset s).pending = s.pending := by
  unfold holdReset
  split <;> rfl

@[simp] theorem releaseReset_pending (contacts : PerLane Contact) : (releaseReset contacts s).pending = s.pending := by
  unfold releaseReset
  split
  · exact comeUp_pending _ _
  · rfl

@[simp] theorem powerOn_pending (contacts : PerLane Contact) (csnLow : Bool) :
    (powerOn contacts csnLow s).pending = s.pending :=
  comeUp_pending _ _

end

end Sys2Proof.Machine
end

