-- ==== Sys2Proof/Laws/Port.lean ====
section
/-!
SUPPORT. What raises, replies and the operations on one lane do to the host link port (R173).
-/

namespace Sys2Proof.Machine

/-! ## Notices -/

/-- The source and kind of a raise's merged contents are those of the waiting notice. -/
theorem merge_key {x y : Notice} (h : y.key = x.key) : (y.merge x).key = y.key := by
  cases x <;> cases y <;> simp_all [Notice.key, Notice.merge]

/-- R173: a raise of a waiting source and kind keeps the order; any other joins the end. -/
theorem raiseIn_keys (x : Notice) (l : List NoticeSlot) :
    (raiseIn x l).map (fun y => y.notice.key) =
      if x.key ∈ l.map (fun y => y.notice.key) then l.map (fun y => y.notice.key)
      else l.map (fun y => y.notice.key) ++ [x.key] := by
  induction l with
  | nil => simp [raiseIn]
  | cons y ys ih =>
    by_cases h : y.notice.key = x.key
    · simp [raiseIn, h, merge_key h]
    · simp only [raiseIn, h, if_false, List.map_cons, ih, List.mem_cons, Ne.symm h, false_or]
      split <;> simp

theorem raiseIn_nodup {x : Notice} {l : List NoticeSlot} (h : (l.map fun y => y.notice.key).Nodup) :
    ((raiseIn x l).map fun y => y.notice.key).Nodup := by
  rw [raiseIn_keys]
  split
  · exact h
  · rename_i hx
    rw [List.nodup_append]
    exact ⟨h, by simp, fun a ha b hb hab => hx (by simp_all)⟩

/-- A raise leaves the first notice first. -/
theorem raiseIn_head {x : Notice} {l : List NoticeSlot} {k : NoticeKey}
    (h : (l.head?).map (fun y => y.notice.key) = some k) :
    ((raiseIn x l).head?).map (fun y => y.notice.key) = some k := by
  cases l with
  | nil => simp at h
  | cons y ys =>
    simp only [raiseIn]
    split
    · rename_i e
      simpa [merge_key e] using h
    · simpa using h

/-! ## Replies, queued and owed -/

/-- R173: the replies the port holds, queued and owed. -/
def Port.load (p : Port) : Nat := p.replies.length + p.owedCount

theorem owedCount_set_none (p : Port) (n : Lane) :
    { p with owed := p.owed.set n none }.owedCount + (if (p.owed.get n).isSome then 1 else 0) = p.owedCount := by
  obtain ⟨l, w, b, r, ⟨o1, o2, o3, o4⟩, x, f, c⟩ := p
  cases n <;> cases o1 <;> cases o2 <;> cases o3 <;> cases o4 <;> rfl

theorem owedCount_set_some (p : Port) (n : Lane) (tag : Byte) :
    { p with owed := p.owed.set n (some tag) }.owedCount ≤ p.owedCount + 1 := by
  obtain ⟨l, w, b, r, ⟨o1, o2, o3, o4⟩, x, f, c⟩ := p
  cases n <;> cases o1 <;> cases o2 <;> cases o3 <;> cases o4 <;> simp [Port.owedCount, PerLane.toList, PerLane.set]

theorem bufferAtHead_replies {p : Port} (h : bufferAtHead p) (r : Reply) (o : PerLane (Option Byte)) :
    bufferAtHead { p with replies := p.replies ++ [r], owed := o } := by
  unfold bufferAtHead at *
  split at h
  · rename_i e
    simp [e]
  · rename_i x e
    simp [e, h]
  · rename_i x e
    simp [e, h]

/-! ## The operations on one lane -/

/-- R173: how the port may change while one lane's work goes on: it holds no more replies than before, the notices stay
one for each source and kind, and the buffer stays at its head. -/
structure PortMoves (p q : Port) : Prop where
  load : q.load ≤ p.load
  distinct : (p.notices.map fun y => y.notice.key).Nodup → (q.notices.map fun y => y.notice.key).Nodup
  buffered : bufferAtHead p → bufferAtHead q

theorem PortMoves.refl (p : Port) : PortMoves p p := ⟨Nat.le_refl _, id, id⟩

theorem PortMoves.trans {p q r : Port} (h : PortMoves p q) (k : PortMoves q r) : PortMoves p r :=
  ⟨Nat.le_trans k.load h.load, k.distinct ∘ h.distinct, k.buffered ∘ h.buffered⟩

theorem raise_portMoves (p : Port) (x : Notice) : PortMoves p { p with notices := raiseIn x p.notices } where
  load := Nat.le_refl _
  distinct := raiseIn_nodup
  buffered h := by
    unfold bufferAtHead at *
    split at h
    · rename_i e
      simp [e]
    · rename_i r e
      simpa [e] using h
    · rename_i r e
      simpa only [e] using raiseIn_head h

theorem unowe_portMoves (p : Port) (n : Lane) : PortMoves p { p with owed := p.owed.set n none } where
  load := by
    have := owedCount_set_none p n
    simp only [Port.load]
    omega
  distinct := id
  buffered := id

theorem reply_portMoves (p : Port) (n : Lane) (tag : Byte) (owed : p.owed.get n = some tag) (r : Reply) :
    PortMoves p { p with replies := p.replies ++ [r], owed := p.owed.set n none } where
  load := by
    have := owedCount_set_none p n
    simp only [owed, Option.isSome_some, if_true] at this
    simp only [Port.load, List.length_append, List.length_singleton]
    show _ + { p with owed := p.owed.set n none }.owedCount ≤ _
    omega
  distinct := id
  buffered h := bufferAtHead_replies h r _

/-- What the operations on one lane do to the port. -/
theorem LaneMoves.port {n : Lane} {s t : State} (h : LaneMoves n s t) : PortMoves s.port t.port := by
  induction h with
  | refl => exact .refl _
  | modCol _ _ ih => exact ih
  | modConverter _ _ ih => exact ih
  | modTable _ _ ih => exact ih
  | modNaming _ _ ih => exact ih
  | raise _ x ih => exact ih.trans (raise_portMoves _ x)
  | unowe _ ih => exact ih.trans (unowe_portMoves _ n)
  | reply _ tag owed r ih => exact ih.trans (reply_portMoves _ n tag owed r)

end Sys2Proof.Machine
end

