-- ==== Sys2Proof/Laws/Slots.lean ====
section
/-!
SUPPORT. Bits and bytes go over into each other; the run of an attempt's slots in closed form (R60, R75, R76); the wired
AND of what devices drive (R54); how a device stands, and what it drives then (R65, R69).
-/

namespace Sys2Proof.Machine

/-! ## Bits and bytes (R60, R169) -/

@[simp] theorem length_bitsOfByte (b : Byte) : (bitsOfByte b).length = 8 := rfl

@[simp] theorem bitsOf_nil : bitsOf [] = [] := rfl

@[simp] theorem bitsOf_cons (b : Byte) (bs : List Byte) : bitsOf (b :: bs) = bitsOfByte b ++ bitsOf bs := rfl

@[simp] theorem length_bitsOf (bs : List Byte) : (bitsOf bs).length = 8 * bs.length := by
  induction bs with
  | nil => rfl
  | cons b bs ih => simp [ih]; omega

set_option maxRecDepth 20000 in
/-- Each of the 256 bytes is the byte of its bits. -/
theorem byteOf_bitsOfByte_fin : ∀ i : Fin 256, byteOf (bitsOfByte (BitVec.ofFin i)) = BitVec.ofFin i := by decide

/-- A byte is the byte of its bits. -/
@[simp] theorem byteOf_bitsOfByte (b : Byte) : byteOf (bitsOfByte b) = b := byteOf_bitsOfByte_fin b.toFin

@[simp] theorem bytesOfBits_cons (k : Nat) (b : Byte) (bits : List Bool) :
    bytesOfBits (k + 1) (bitsOfByte b ++ bits) = b :: bytesOfBits k bits := by
  have e : (bitsOfByte b).length ≤ 8 := Nat.le_refl 8
  simp [bytesOfBits, List.take_append, List.drop_append, List.take_of_length_le e, List.drop_of_length_le e]

/-- The bytes of bytes' bits are those bytes, whatever bits follow. -/
theorem bytesOfBits_bitsOf (bs : List Byte) (extra : List Bool) : bytesOfBits bs.length (bitsOf bs ++ extra) = bs := by
  induction bs with
  | nil => rfl
  | cons b bs ih => simp [List.append_assoc, ih]

/-- R169: the whole bytes of bytes' bits and of fewer than eight more. -/
theorem wholeBytes_bitsOf (bs : List Byte) (extra : List Bool) (h : extra.length < 8) :
    wholeBytes (bitsOf bs ++ extra) = bs := by
  have : (bitsOf bs ++ extra).length / 8 = bs.length := by simp; omega
  rw [wholeBytes, this, bytesOfBits_bitsOf]

/-! ## The wired AND (R54) -/

@[simp] theorem wireHigh_lowIf {α : Type} (f : α → Bool) (l : List α) :
    wireHigh (l.map fun x => lowIf !(f x)) = l.all f := by
  simp only [wireHigh, List.all_map]
  congr 1
  funext x
  cases h : f x <;> simp [lowIf, h]

@[simp] theorem ackRead_eq (ds : List Device) : ackRead ds = !ds.isEmpty := by
  cases ds <;> simp [ackRead, wireHigh]

/-! ## The run of an attempt -/

@[simp] theorem after_ran (x : LineSlot) (r : SlotRun) : (r.after x).ran = x :: r.ran := rfl
@[simp] theorem after_nak (x : LineSlot) (r : SlotRun) : (r.after x).nak = r.nak := rfl
@[simp] theorem after_heard (x : LineSlot) (r : SlotRun) : (r.after x).heard = r.heard := rfl

/-- A run with slots before it. -/
def SlotRun.afterAll (xs : List LineSlot) (r : SlotRun) : SlotRun := { r with ran := xs ++ r.ran }

@[simp] theorem afterAll_afterAll (xs ys : List LineSlot) (r : SlotRun) :
    (r.afterAll ys).afterAll xs = r.afterAll (xs ++ ys) := by simp [SlotRun.afterAll]

/-- R75: the bytes the part reads; one that nobody drives reads FFh (log 9). -/
def bytesHeard : Nat → List Byte → List Byte
  | 0, _ => []
  | k + 1, bytes => bytes.headD 0xFF :: bytesHeard k bytes.tail

@[simp] theorem length_bytesHeard (k : Nat) (bytes : List Byte) : (bytesHeard k bytes).length = k := by
  induction k generalizing bytes with
  | zero => rfl
  | succ k ih => simp [bytesHeard, ih]

theorem bytesHeard_self (bytes : List Byte) : bytesHeard bytes.length bytes = bytes := by
  induction bytes with
  | nil => rfl
  | cons b bs ih => simp [bytesHeard, ih]

/-- The part's own bits run whatever the line gives. -/
theorem runSlots_partBits (p : EnginePhase) (own : List Bool) (xs : List LineSlot) (acks bits : List Bool) :
    runSlots (own.map (fun x => ⟨p, .partBit x⟩) ++ xs) acks bits =
      (runSlots xs acks bits).afterAll (own.map fun x => ⟨p, .partBit x⟩) := by
  induction own with
  | nil => rfl
  | cons b bs ih => simp [runSlots, ih, SlotRun.afterAll, SlotRun.after]

/-- R60: a byte sent is run whole; its missing acknowledge goes to the stop slot. -/
theorem runSlots_sentByte (p : EnginePhase) (i : Nat) (b : Byte) (xs : List LineSlot) (acks bits : List Bool) :
    runSlots (sentByte p i b ++ xs) acks bits =
      if acks.headD false then (runSlots xs acks.tail bits).afterAll (sentByte p i b)
      else { ran := sentByte p i b ++ [stopSlot], nak := some i, heard := [] } := by
  rw [sentByte, List.append_assoc, runSlots_partBits]
  cases h : acks.headD false <;> simp [runSlots, -List.headD_eq_head?_getD, h, SlotRun.afterAll, SlotRun.after]

/-- R68, R71, R72: the devices' bytes are read as they come. -/
theorem runSlots_heardBytes (p : EnginePhase) (k : Nat) (acks : List Bool) (bytes : List Byte) :
    runSlots (heardBytes p k) acks (bitsOf bytes) =
      { ran := heardBytes p k ++ [stopSlot], nak := none, heard := bitsOf (bytesHeard k bytes) } := by
  induction k generalizing bytes with
  | zero => rfl
  | succ k ih =>
    cases bytes with
    | nil =>
      have e := ih []
      simp only [bitsOf_nil] at e
      simp [heardBytes, runSlots, List.replicate, bytesHeard, e, SlotRun.after, bitsOfByte]
    | cons b bs =>
      simp [heardBytes, runSlots, List.replicate, bytesHeard, ih, SlotRun.after, bitsOfByte]

/-- R60: bytes sent, every one acknowledged. -/
theorem runSlots_acked (p : EnginePhase) (bs : List Byte) (i : Nat) (xs : List LineSlot) (acks bits : List Bool)
    (h : ∀ j < bs.length, acks.getD j false = true) :
    runSlots (sentBytes p i bs ++ xs) acks bits =
      (runSlots xs (acks.drop bs.length) bits).afterAll (sentBytes p i bs) := by
  induction bs generalizing i acks with
  | nil => simp [sentBytes, SlotRun.afterAll]
  | cons b bs ih =>
    have first := h 0 (by simp)
    rw [sentBytes, List.append_assoc, runSlots_sentByte]
    cases acks with
    | nil => simp at first
    | cons a as =>
      have : a = true := by simpa using first
      subst this
      rw [List.headD_cons, if_pos rfl, List.tail_cons, ih]
      · simp
      · intro j hj
        simpa using h (j + 1) (by simpa using hj)

/-- R60: bytes sent, the acknowledge of the byte at k missing. -/
theorem runSlots_nak (p : EnginePhase) (bs : List Byte) (i k : Nat) (xs : List LineSlot) (acks bits : List Bool)
    (hk : k < bs.length) (h : ∀ j < k, acks.getD j false = true) (missing : acks.getD k false = false) :
    runSlots (sentBytes p i bs ++ xs) acks bits =
      { ran := (sentBytes p i bs).take (9 * (k + 1)) ++ [stopSlot], nak := some (i + k), heard := [] } := by
  induction bs generalizing i k acks with
  | nil => simp at hk
  | cons b bs ih =>
    have nine : (sentByte p i b).length = 9 := rfl
    rw [sentBytes, List.append_assoc, runSlots_sentByte]
    cases k with
    | zero =>
      have none : acks.headD false = false := by cases acks <;> simp_all
      simp [-List.headD_eq_head?_getD, none, ← nine]
    | succ k =>
      have first := h 0 (by simp)
      cases acks with
      | nil => simp at first
      | cons a as =>
        have : a = true := by simpa using first
        subst this
        rw [List.headD_cons, if_pos rfl, List.tail_cons,
          ih (i + 1) k as (by simpa using hk) (fun j hj => by simpa using h (j + 1) (by omega)) (by simpa using missing)]
        have e : 9 * (k + 1 + 1) - 9 = 9 * (k + 1) := by omega
        simp only [SlotRun.afterAll, List.take_append, nine, e,
          List.take_of_length_le (show (sentByte p i b).length ≤ 9 * (k + 1 + 1) by omega), List.append_assoc]
        congr 2
        omega

/-- The slots before the stop slot, header and bytes sent written as one. -/
theorem body_sent (r : LineRequest) :
    r.body = ⟨.start, .start⟩ :: (sentByte .header 1 r.header ++ (sentBytes .callOut 2 r.out ++ heardBytes r.inPhase r.expected)) :=
  rfl

theorem length_sentBytes (p : EnginePhase) (i : Nat) (bs : List Byte) : (sentBytes p i bs).length = 9 * bs.length := by
  induction bs generalizing i with
  | nil => rfl
  | cons b bs ih =>
    have nine : (sentByte p i b).length = 9 := rfl
    simp [sentBytes, ih, nine]; omega

theorem length_heardBytes (p : EnginePhase) (k : Nat) : (heardBytes p k).length = 9 * k := by
  induction k with
  | zero => rfl
  | succ k ih => simp [heardBytes, ih]; omega

/-- R76: a start slot and nine slots for each byte. -/
theorem length_body (r : LineRequest) : r.body.length = 1 + 9 * r.bytes := by
  have nine : (sentByte .header 1 r.header).length = 9 := rfl
  simp [LineRequest.body, LineRequest.bytes, length_sentBytes, length_heardBytes, nine]
  omega

/-- R59, R60, R75: with every acknowledge given, every slot of the call runs and every byte is read. -/
theorem run_acked (r : LineRequest) (acks : List Bool) (bytes : List Byte)
    (h : ∀ i < 1 + r.out.length, acks.getD i false = true) :
    r.run acks bytes =
      { ran := r.slots, nak := none, heard := bitsOf (bytesHeard r.expected bytes) } := by
  have first := h 0 (by omega)
  cases acks with
  | nil => simp at first
  | cons a as =>
    have : a = true := by simpa using first
    subst this
    have rest : ∀ j < r.out.length, as.getD j false = true := fun j hj => by simpa using h (j + 1) (by omega)
    show (runSlots _ (true :: as) (bitsOf bytes)).after _ = _
    rw [runSlots_sentByte, List.headD_cons, if_pos rfl, List.tail_cons, runSlots_acked _ _ _ _ _ _ rest,
      runSlots_heardBytes]
    simp [SlotRun.afterAll, SlotRun.after, LineRequest.slots, LineRequest.body]

/-- R60, R75: with the acknowledge of the byte at k missing, the stop slot follows it. -/
theorem run_nak (r : LineRequest) (k : Nat) (acks : List Bool) (bytes : List Byte) (hk : k ≤ r.out.length)
    (h : ∀ i < k, acks.getD i false = true) (missing : acks.getD k false = false) :
    r.run acks bytes =
      { ran := r.body.take (1 + 9 * (k + 1)) ++ [stopSlot], nak := some (k + 1), heard := [] } := by
  have nine : (sentByte .header 1 r.header).length = 9 := rfl
  show (runSlots _ acks (bitsOf bytes)).after _ = _
  rw [runSlots_sentByte]
  cases k with
  | zero =>
    have none : acks.headD false = false := by cases acks <;> simp_all
    have e : 1 + 9 * (0 + 1) = (sentByte .header 1 r.header).length + 1 := by rw [nine]
    simp only [none, e, LineRequest.body, List.take_succ_cons, List.take_left]
    rfl
  | succ k =>
    have first := h 0 (by omega)
    cases acks with
    | nil => simp at first
    | cons a as =>
      have : a = true := by simpa using first
      subst this
      rw [List.headD_cons, if_pos rfl, List.tail_cons,
        runSlots_nak _ _ 2 k _ as _ (by omega) (fun j hj => by simpa using h (j + 1) (by omega)) (by simpa using missing)]
      have e : 1 + 9 * (k + 1 + 1) = (9 + 9 * (k + 1)) + 1 := by omega
      have f : 9 * (k + 1) ≤ (sentBytes .callOut 2 r.out).length := by rw [length_sentBytes]; omega
      simp [SlotRun.afterAll, SlotRun.after, LineRequest.body, e, List.take_append, nine, List.take_of_length_le,
        List.take_append_of_le_length f, List.take_succ_cons, Nat.add_comm 2 k]

/-- R75, R76: the result of an attempt whose every acknowledge is given. -/
theorem result_acked (r : LineRequest) (acks : List Bool) (bytes : List Byte)
    (h : ∀ i < 1 + r.out.length, acks.getD i false = true) :
    r.result acks bytes =
      { outcome := if checkGood (bytesHeard r.expected bytes) then .done else .badCheck
        failedByte := none
        bytesRead := r.handedBytes (bytesHeard r.expected bytes)
        bitTimes := 2 + 9 * r.bytes } := by
  have := wholeBytes_bitsOf (bytesHeard r.expected bytes) [] (by simp)
  rw [List.append_nil] at this
  simp [LineRequest.result, run_acked r acks bytes h, LineRequest.judge, this, LineRequest.slots, length_body]
  omega

/-- R60, R75, R76: the result of an attempt with an acknowledge missing. -/
theorem result_nak (r : LineRequest) (k : Nat) (acks : List Bool) (bytes : List Byte) (hk : k ≤ r.out.length)
    (h : ∀ i < k, acks.getD i false = true) (missing : acks.getD k false = false) :
    r.result acks bytes =
      { outcome := .noAck, failedByte := some (k + 1), bytesRead := none, bitTimes := 2 + 9 * (k + 1) } := by
  have long : 1 + 9 * (k + 1) ≤ r.body.length := by rw [length_body, LineRequest.bytes]; omega
  simp [LineRequest.result, run_nak r k acks bytes hk h missing, LineRequest.judge, List.length_take,
    Nat.min_eq_left long]
  omega

/-! ## How a device stands (R65, R69) -/

/-- R58, R65: in the header of a transaction every device that sees the line may stretch. -/
@[simp] theorem standing_header (d : Device) (r : LineRequest) (heard : List Bool) : d.standing r 0 heard = .header := rfl

/-- R60, R64: the header's acknowledge is driven low by the devices that acknowledge it, and by no other. -/
theorem lda_header (d : Device) (r : LineRequest) (heard : List Bool) :
    d.lda r 0 heard (.deviceAck 1) = lowIf (d.acksHeader r) := by
  simp [Device.lda, Device.setsLow, Device.acksAll, Standing.mayAnswer]

/-- R57, R65: a device out of the transaction, idle or complete drives nothing on LDA. -/
theorem lda_released {d : Device} {r : LineRequest} {k : Nat} {heard : List Bool}
    (h : (d.standing r k heard).mayAnswer = false) (use : SlotUse) : d.lda r k heard use = .released := by
  simp [Device.lda, h, lowIf]

/-- R69: a device that has lost the arbitration is out of the transaction. -/
theorem standing_lost {d : Device} {r : LineRequest} {k : Nat} {heard : List Bool} (hk : k ≠ 0)
    (lost : d.arbitrates r heard = false) : d.standing r k heard = .out := by
  simp [Device.standing, hk, lost]

/-- R64, R65: a device that does not acknowledge the header is out of the transaction from there on. -/
theorem standing_unaddressed {d : Device} {r : LineRequest} {k : Nat} {heard : List Bool} (hk : k ≠ 0)
    (silent : d.acksHeader r = false) : d.standing r k heard = .out := by
  simp [Device.standing, hk, silent]

/-! ## Starts and stops on the wires -/

/-- R57: no start and no stop is made while LCK reads LOW. -/
theorem condition_of_clock_low {a b : Levels} (h : a.lck = false ∨ b.lck = false) : a.condition b = none := by
  rcases h with h | h <;> simp [Levels.condition, h]

/-- R57: no start and no stop is made while LDA keeps its level. -/
theorem condition_of_data_kept {a b : Levels} (h : a.lda = b.lda) : a.condition b = none := by
  unfold Levels.condition
  rw [h]
  cases b.lda <;> simp

/-- Levels that make no condition at their first change are seen as from the second on. -/
theorem seeWires_quiet {r : LineRequest} {a b : Levels} {ls : List Levels} {xs : List Situated} (h : a.condition b = none) :
    seeWires r (a :: b :: ls) xs = seeWires r (b :: ls) xs := by rw [seeWires, h]

/-- Levels that make a condition at their first change show it to the devices first. -/
theorem seeWires_condition {r : LineRequest} {a b : Levels} {ls : List Levels} {xs : List Situated} {c : Condition}
    (h : a.condition b = some c) : seeWires r (a :: b :: ls) xs = seeWires r (b :: ls) (seeCondition r c xs) := by
  rw [seeWires, h]

end Sys2Proof.Machine
end

