-- ==== Sys2Proof/Tests/Slice0.lean ====
section
/-!
SUPPORT. The model's own tests: ill-formed commands that the checks refuse, single steps whose results stand in the
spec's worked cases, and for each statement with hypotheses a state and operands that meet them, clause by clause.
-/

namespace Sys2Proof.Tests

open Sys2Proof.Machine

set_option maxRecDepth 8000

/-! ## Fixtures -/

/-- The state a command leads to. -/
def after (c : Instr) (s : State) : State :=
  match exec c s with
  | .next t => t
  | .fault _ => s
  | .refused _ => s

/-- The reset state with one lane's column replaced. -/
def on (n : Lane) (c : Column) : State := { State.reset with columns := State.reset.columns.set n c }

/-- A column at rest in a lane state, its comparator at this reading. -/
def at' (x : LaneState) (r : Reading) : Column :=
  { Column.reset with ctl := { LaneCtl.reset with state := x, reading := r } }

/-- A record ended VALID of class B, as in the worked signature case. -/
def record : SignatureRecord :=
  { attempts := 2
    m1 := { v1 := some 612, v2 := some 1013, slope := some 401, verdict := some (.ofClass .b) }
    m2 := { v1 := some 611, v2 := some 1009, slope := some 398, verdict := some (.ofClass .b) }
    attemptVerdict := some .valid, final := .valid, cls := some .b, slope := some 399, resistance := some 9975 }

/-- A record before the last point of attempt `k`, with these codes. -/
def threePoints (k : Nat) (a b c : Code) : SignatureRecord :=
  { SignatureRecord.cleared with
    attempts := k, m1 := ({ Measurement.absent with v1 := some a }).judge a b
    m2 := { Measurement.absent with v1 := some c } }

/-- A class B supply in a phase. -/
def supply (p : SupplyPhase) (a low : Nat) : Supervisor :=
  { switch := .closed, phase := p, cls := some .b
    inrush := if p = .inrush then .running 50 else .stopped
    samplePeriod := if p = .inrush then .stopped else .running 10
    current := 480, voltage := 2985, overload := a, lowCount := low }

/-- A powered lane. -/
def powered (x : LaneState) (p : SupplyPhase) : Column :=
  { at' x .mated with
    ctl := { LaneCtl.reset with
      state := x, reading := .mated, record := record
      bootWait := if x = .powering ∧ p = .policing then .running 20 else .stopped }
    supervisor := supply p 0 0 }

/-- A state whose converter runs this job. -/
def converting (s : State) (n : Lane) (k : JobKind) (live : Bool) : State :=
  { s with converter := { Converter.reset with job := some { lane := n, kind := k, live } } }

/-- An engine in an attempt of a request. -/
def trying (q : Requester) (r : LineRequest) : Engine :=
  { Engine.reset with
    phase := .start, inFlight := some { request := r, requester := q, retryLimit := 3, attempt := 1 }
    rateInUse := some .k100, stallInUse := some 10, lda := .low }

/-- An arbiter whose last grant was the procedure's. -/
def granted : LineArbiter := { procedure := none, transfer := none, lastGrant := .procedure }

/-- A walking lane in a phase of its walk, its request under way. -/
def walking (p : WalkPhase) (r : LineRequest) : Column :=
  { powered .walking .policing with
    walk := { WalkUnit.reset with phase := p, record := WalkRecord.start .running }
    engine := trying .procedure r, arbiter := granted }

/-- A ready lane in a phase of roll call. -/
def ready (p : RollPhase) : Column :=
  { powered .ready .policing with roll := { RollCall.reset with phase := p, period := .running 250 } }

/-- An entry of a lane: gripper G of the worked arbitration. -/
def gripper (n : Lane) (h : Nat) (x : EntryState) : Entry :=
  { key := ⟨n, h⟩, identity := 0x001A40000007, cls := 0x20, state := x, depth := 0, parent := 0, leg := none
    flags := { junction := false, depthLimit := false, legFailed := false, degraded := false }
    miss := 0, errors := 0, status := none, name := none, slotRef := none }

/-- A state whose table holds one entry. -/
def holding (s : State) (e : Entry) : State :=
  { s with table := { entries := [e], away := if e.state = .away then [e.key] else [] } }

/-- A tool with one slot. -/
def tool : Tool :=
  { number := 1, key := 0x000950000001, expects := ⟨.any, .any, .any, .nothing⟩
    slots :=
      [{ name := [0x57, 0x52], lane := .one, cls := 1, parent := 0, leg := none, required := true
         filling := .ordinal 1, depth := 0 }] }

/-- The slot fields of a request for a root slot. -/
def slotRequest (lane leg : Byte) : SlotBytes :=
  { name := [0x4A, 0x41, 0x57, 0, 0, 0, 0, 0], lane, cls := 0x20, parent := 0, leg, required := 1, pinFlag := 0, pin := 0
    ordinal := 1 }

/-- A state whose catalogue holds one tool. -/
def loaded : State := { State.reset with catalogue := { tools := [tool] } }

/-- A state with a read's reply owed on lane 2, the read's last chunk under way. -/
def reading : State :=
  let s := on .two { ready .waiting with
    slot := .busy { handle := 3, offset := 16, count := 18, bytes := List.replicate 16 0x11 }
    engine := trying .transfer (peekRequest 3 32 2) }
  { s with port := { s.port with owed := s.port.owed.set .two (some 0x40) } }

/-- A port with a window of this length open and these contents. -/
def window (buffer : Option HeldFrame) (k : Nat) : State :=
  { State.reset with
    port := { Port.reset with
      window := .clocking (List.replicate k 0) { short := true, full := false }, buffer
      flags := { short := true, full := false } } }

/-! ## Ill-formed commands (WellFormed.lean) -/

theorem test_wf_mate : (Instr.mateEvent .one (.resistance 60001)).wf = false := by decide
theorem test_wf_open : (Instr.openEvent .one (.resistance 60000)).wf = false := by decide
theorem test_wf_stall : (Instr.stall .one ⟨1, false⟩).wf = false ∧ (Instr.stall .one ⟨183, true⟩).wf = false := by decide
theorem test_wf_collision :
    (Instr.collision .one ⟨2, .clockLow⟩).wf = false ∧ (Instr.collision .one ⟨1, .readLow⟩).wf = false ∧
      (Instr.collision .one ⟨183, .changed⟩).wf = false ∧ (Instr.collision .one ⟨1, .heldAtStop⟩).wf = false := by decide
theorem test_wf_attempt :
    (Instr.attemptEnd .one [] []).wf = false ∧ (Instr.attemptEnd .one (List.replicate 9 true) []).wf = false ∧
      (Instr.attemptEnd .one [true] (List.replicate 18 0)).wf = false := by decide
theorem test_wf_configure :
    (Instr.configure 0 []).wf = false ∧ (Instr.configure 0 (List.replicate 21 ⟨1, 1⟩)).wf = false := by decide
theorem test_wf_slot : (Instr.catSlot 0 1 { slotRequest 1 0 with name := [0x41] }).wf = false := by decide

/-- The table gives no row any bits. -/
theorem test_table_word : decodeTableWord 0 0 = none := by decide

/-! ## Single steps -/

/-- R2: 60 kΩ is MATED and 60,001 Ω is not; 1.14: a mate event enters SETTLING with 50 ms. -/
theorem test_mate :
    (after (.mateEvent .two (.resistance 60000)) State.reset).laneState .two = .settling ∧
      ((after (.mateEvent .two (.resistance 60000)) State.reset).col .two).ctl.settle = .running 50 ∧
      after (.mateEvent .two (.resistance 60001)) State.reset = State.reset := by decide

/-- 1.14: the bounce at 3 ms; R18: OFF follows the reading only. -/
theorem test_open :
    (after (.openEvent .two .bare) (on .two (at' .settling .mated))).laneState .two = .empty ∧
      ((after (.openEvent .two .bare) (on .two (at' .off .mated))).col .two).ctl.reading = .opened ∧
      (after (.openEvent .two .bare) (on .two (at' .off .mated))).laneState .two = .off := by decide

/-- 2.6: the series starts with count 1 and its first P1. -/
theorem test_settle :
    let c := { at' .settling .mated with ctl := { (at' .settling .mated).ctl with settle := .running 50 } }
    let t := after (.settleTimerExpiry .two) (on .two c)
    t.laneState .two = .signature ∧ (t.col .two).ctl.record.attempts = 1 ∧
      t.converter.job = some { lane := .two, kind := .point .p1, live := true } ∧ t.senseCurrent .two = 100 := by decide

/-- 1.14 at 572 ms: the mark is STALE and the lane stays. -/
theorem test_grant_window :
    let c := { at' .awaitGrant .mated with ctl := { (at' .awaitGrant .mated).ctl with mark := .fresh, grantWindow := .running 500 } }
    let t := after (.grantWindowExpiry .two) (on .two c)
    (t.col .two).ctl.mark = .stale ∧ t.laneState .two = .awaitGrant ∧ t.port = State.reset.port := by decide

/-- 2.6, attempt 1: S 402 and S 380 are SPREAD; attempt 2 begins. -/
theorem test_point_spread :
    let c := { at' .signature .mated with ctl := { (at' .signature .mated).ctl with record := threePoints 1 610 1012 615 } }
    let t := after (.pointJobCompletion 995 (.resistance 10000)) (converting (on .two c) .two (.point .p2) true)
    ((threePoints 1 610 1012 615).writePoint 995).attemptVerdict = some .spread ∧
      (t.col .two).ctl.record = { SignatureRecord.cleared with attempts := 2 } ∧
      t.converter.job = some { lane := .two, kind := .point .p1, live := true } := by decide

/-- R24: P2 follows P1, and forces 300 µA. -/
theorem test_point_order :
    let c := { at' .signature .mated with ctl := { (at' .signature .mated).ctl with record := { SignatureRecord.cleared with attempts := 1 } } }
    let t := after (.pointJobCompletion 612 (.resistance 10000)) (converting (on .two c) .two (.point .p1) true)
    t.converter.job = some { lane := .two, kind := .point .p2, live := true } ∧ t.senseCurrent .two = 300 ∧
      t.senseCurrent .one = 10 := by decide

/-- 2.6, attempt 2: VALID of class B, slope code 399, 9,975 Ω, AWAIT_GRANT for 500 ms under HELD. -/
theorem test_point_valid :
    let c := { at' .signature .mated with ctl := { (at' .signature .mated).ctl with record := threePoints 2 612 1013 611 } }
    let t := after (.pointJobCompletion 1009 (.resistance 10000)) (converting (on .two c) .two (.point .p2) true)
    (t.col .two).ctl.record = record ∧ t.laneState .two = .awaitGrant ∧
      (t.col .two).ctl.grantWindow = .running 500 := by decide

/-- 3.12, samples 1 and 9: power good at U 2985 starts the boot wait of 20 ms; the ninth sample takes A to 60. -/
theorem test_sample :
    let first := after (.sampleJobCompletion 480 2985) (converting (on .three (powered .powering .check)) .three .sample true)
    let ninth := after (.sampleJobCompletion 570 2980)
      (converting (on .three { powered .walking .policing with supervisor := supply .policing 58 0 }) .three .sample true)
    (first.col .three).supervisor.phase = .policing ∧ (first.col .three).ctl.bootWait = .running 20 ∧
      ninth.laneState .three = .fault ∧ (ninth.col .three).ctl.fault = .overload ∧
      (ninth.port.notices.map fun y => y.notice)[1]? =
        some (.laneFault .three { code := .overload, current := 570, voltage := 2980 }) := by decide

/-- 3.13, samples 4 and 7: U 2710 starts the count again; a third code below 2700 faults SUPPLY_LOW. -/
theorem test_sample_low :
    let c : Column := { ready .waiting with supervisor := supply .policing 0 2 }
    ((after (.sampleJobCompletion 400 2710) (converting (on .four c) .four .sample true)).col .four).supervisor.lowCount = 0 ∧
      ((after (.sampleJobCompletion 400 2590) (converting (on .four c) .four .sample true)).col .four).ctl.fault = .supplyLow := by
  decide

/-- R45 with R32's class B: 2,000 mA is not a trip, 2,001 mA is. -/
theorem test_trip :
    after (.tripEvent .three 2000) (on .three (ready .waiting)) = on .three (ready .waiting) ∧
      ((after (.tripEvent .three 2001) (on .three (ready .waiting))).col .three).ctl.fault = .short := by decide

/-- 1.14 at 966 ms; 2.7 at 1 ms: a sample is placed. -/
theorem test_inrush :
    let t := after (.inrushWindowExpiry .three 100) (on .three (powered .powering .inrush))
    (t.col .three).supervisor.phase = .check ∧ t.converter.job = some { lane := .three, kind := .sample, live := true } := by
  decide

/-- 2.7 at 11 ms: lane 3's due sample waits behind lane 1's point job. -/
theorem test_sample_due :
    let t := after (.sampleDueInstant .three) (converting (on .three (ready .waiting)) .one (.point .p1) true)
    t.converter.samplePending.three = true ∧ t.converter.job = some { lane := .one, kind := .point .p1, live := true } := by
  decide

/-- 1.14 at 986.5 ms: WALKING, and R92's RELEASE to handle 31 is in its idle check. -/
theorem test_boot :
    let t := after (.bootWaitExpiry .two) (on .two (powered .powering .policing))
    t.laneState .two = .walking ∧ (t.col .two).engine.phase = .idleCheck ∧
      (t.col .two).engine.inFlight.map (fun x => x.request.header) = some 0xFE := by decide

/-- R14: the AWAY entry goes, and ROSTER removed is 1. -/
theorem test_hold :
    let c := { at' .empty .opened with ctl := { LaneCtl.reset with hold := .running 1000 } }
    let t := after (.remateHoldExpiry .one) (holding (on .one c) (gripper .one 3 .away))
    t.table.entries = [] ∧ t.table.away = [] ∧
      (t.port.notices.map fun y => y.notice)[1]? = some (.roster .one ⟨0, 1, 0⟩) := by decide

/-- R56: the start slot drives LDA low. -/
theorem test_idle_check :
    let c := { ready .waiting with engine := { trying .procedure enrolRequest with phase := .idleCheck, lda := .released } }
    ((after (.idleCheckPassed .one) (on .one c)).col .one).engine.lda = .low := by decide

/-- R83: a stuck line in READY faults LINE_STUCK. -/
theorem test_line_stuck :
    let c := { ready .probing with engine := { trying .procedure (probeRequest 3) with phase := .idleCheck } }
    ((after (.lineStuck .one) (on .one c)).col .one).ctl.fault = .lineStuck := by decide

/-- R126: a stalled PROBE counts against its entry; the engine closes the line. -/
theorem test_stall :
    let t := after (.stall .one ⟨5, false⟩)
      (holding (on .one { ready .probing with engine := trying .procedure (probeRequest 3) }) (gripper .one 3 .present))
    t.table.entries.map Entry.errors = [1] ∧ (t.col .one).engine.phase = .closing := by decide

/-- R82: a collision of a BIND counts against the handle byte. -/
theorem test_collision :
    let t := after (.collision .one ⟨5, .changed⟩)
      (holding (on .one (walking .binding (bindRequest 0x001A40000007 3))) (gripper .one 3 .away))
    t.table.entries.map Entry.errors = [1] := by decide

/-- 4.5: the record of J, 00 00 00 00 00 12 01 7Ah, wins; the part binds it to handle 1. -/
theorem test_attempt_enrol :
    let t := after (.attemptEnd .one [true] [0, 0, 0, 0, 0, 0x12, 0x01, 0x7A]) (on .one (walking .rounds enrolRequest))
    (t.col .one).walk.binding = some { identity := 0x12, cls := 1, handle := 1, kind := .new } ∧
      (t.col .one).engine.inFlight.map (fun x => x.request.out) = some [0, 0, 0, 0, 0, 0x12, 1] := by decide

/-- R138: the third miss in a row makes a PRESENT entry LOST. -/
theorem test_attempt_probe :
    let c := { ready .probing with
      roll := { (ready .probing).roll with position := some 3 }
      engine := { trying .procedure (probeRequest 3) with
        inFlight := some { request := probeRequest 3, requester := .procedure, retryLimit := 3, attempt := 4 } } }
    let t := after (.attemptEnd .one [false] []) (holding (on .one c) { gripper .one 3 .present with miss := 2 })
    t.table.entries.map (fun e => (e.state, e.miss, e.errors)) = [(.lost, 3, 1)] := by decide

/-- R63, R79: at the closing's end the next attempt begins. -/
theorem test_closing :
    let c := { ready .probing with engine := { trying .procedure (probeRequest 3) with phase := .closing } }
    ((after (.closingStop .one) (on .one c)).col .one).engine.inFlight.map (·.attempt) = some 2 ∧
      ((after (.closingGivenUp .one) (on .one c)).col .one).engine.phase = .idleCheck := by decide

/-- R135: with the sweep on, a period starts with ENROL, header 01h. -/
theorem test_period :
    let t := after (.rollCallPeriodExpiry .one) (on .one (ready .waiting))
    (t.col .one).roll.phase = .sweeping ∧ (t.col .one).engine.inFlight.map (fun x => x.request.header) = some 1 := by
  decide

/-- 11.5, window 1: NOTICE source 0, RESTARTED, 6 bytes; cut short, the snapshot stays and its slot waits. -/
theorem test_window_one :
    let t := after .chipSelectFall State.reset
    t.port.window = .clocking [0x81, 3, 0, 0, 5, 1] ⟨false, false⟩ ∧
      (after (.chipSelectRise (bitsOf [0, 0, 0])) t).port.buffer = t.port.buffer ∧
      (after (.chipSelectRise (bitsOf [0, 0, 0])) t).port.notices.length = 1 := by decide

/-- 11.5, window 2: STATUS of tag 07h is accepted while RESTARTED is delivered. -/
theorem test_window_two :
    let t := after (.chipSelectRise (bitsOf [1, 7, 0, 0, 0, 0])) (after .chipSelectFall State.reset)
    t.port.notices = [] ∧ t.port.buffer = none ∧
      t.port.replies = [{ tag := 7, code := 1, status := .ok, payload := [0, 1, 1, 1, 1, 1, 0, 0, 0, 0] }] := by decide

/-- R174, R180: RESETN falls: ATTN and SDO are released and a request is dropped; released with lane 1 mated: RESTARTED
comes before its LANE_STATE, and the window that spans the end is ignored. -/
theorem test_hardware_reset :
    let held := after (.hardwareReset .held (PerLane.fill .bare) true) (after .chipSelectFall loaded)
    let t := after (.hardwareReset .released ⟨.resistance 10000, .bare, .bare, .bare⟩ false) held
    held.port.attnLow = false ∧ held.port.sdo 0 = .highImpedance ∧ after (.status 9) held = held ∧
      (t.port.notices.map fun y => y.notice) = [.restarted .resetPin, stateNotice .one .settling .mated] ∧
      t.catalogue.tools = [] ∧ t.port.window = .ignored := by decide

/-- R180: after power-on the cause is POWER_ON. -/
theorem test_power_on :
    (after (.hardwareReset .powerOn (PerLane.fill .bare) false) loaded).port.resetCause = .powerOn := by decide

/-- R176: 47 ms is taken as 40 ms; an unknown id applies nothing. -/
theorem test_configure :
    (after (.configure 9 [⟨1, 47⟩]) State.reset).settings.mateSettle = 40 ∧
      (after (.configure 9 [⟨1, 47⟩, ⟨0x40, 1⟩]) State.reset).settings = Settings.defaults := by decide

/-- R5: GRANT with a FRESH mark powers the lane. -/
theorem test_grant :
    let c := { at' .awaitGrant .mated with ctl := { (at' .awaitGrant .mated).ctl with mark := .fresh, record := record } }
    let t := after (.grant 9 2) (on .two c)
    t.laneState .two = .powering ∧ (t.col .two).supervisor.switch = .closed ∧ (t.col .two).supervisor.cls = some .b := by
  decide

/-- R7: REWALK is refused outside READY; R11: taken in READY. -/
theorem test_rewalk :
    (after (.rewalk 9 2) State.reset).port.replies.map (·.status) = [.refusedState] ∧
      (after (.rewalk 9 2) (on .two (ready .waiting))).laneState .two = .walking := by decide

/-- R17: CLEAR takes FAULT to SETTLING. -/
theorem test_clear : (after (.clear 9 2) (on .two (at' .fault .mated))).laneState .two = .settling := by decide

/-- 11.6: a lane record is 46 bytes and begins with the lane and its state. -/
theorem test_lane_read :
    (after (.laneRead 9 2) State.reset).port.replies.map (fun r => (r.payload.length, r.payload.take 2)) =
      [(46, [2, 1])] := by decide

/-- R130: one entry of 27 bytes after total 1, given 1, no more. -/
theorem test_roster :
    (after (.roster 9 1 1) (holding State.reset (gripper .one 3 .present))).port.replies.map
      (fun r => (r.payload.length, r.payload.take 5)) = [(30, [1, 1, 0, 1, 3])] := by decide

/-- R177: a read is refused outside READY, and owes its reply when it passes. -/
theorem test_device_read :
    (after (.deviceRead 9 1 3 0 0) State.reset).port.replies.map (·.status) = [.refusedState] ∧
      (after (.deviceRead 9 1 3 0 0) (holding (on .one (ready .waiting)) (gripper .one 3 .present))).port.owed.one = some 9 := by
  decide

/-- R128: the count goes to 0 and a set DEGRADED adds 1 to ROSTER changed. -/
theorem test_device_clear :
    let e := { gripper .one 3 .lost with errors := 40, flags := { (gripper .one 3 .lost).flags with degraded := true } }
    let t := after (.deviceClear 9 1 3) (holding State.reset e)
    t.table.entries.map (fun e => (e.errors, e.flags.degraded)) = [(0, false)] ∧
      (t.port.notices.map fun y => y.notice)[1]? = some (.roster .one ⟨0, 0, 1⟩) := by decide

/-- 9.9's start: with tool 1 defined, number 0 takes number 2. -/
theorem test_cat_tool :
    (after (.catTool 9 0 0x003C00000021 ⟨3, 0, 0, 0⟩) loaded).port.replies.map (·.payload) = [[2]] ∧
      (after (.catTool 9 2 0x000950000001 ⟨0, 0, 0, 0⟩) loaded).port.replies.map (fun r => (r.status, r.payload)) =
        [(.conflict, [1, 1])] := by decide

/-- R146: the second slot has index 2 and depth 0. -/
theorem test_cat_slot :
    (after (.catSlot 9 1 (slotRequest 2 0)) loaded).port.replies.map (fun r => (r.status, r.payload)) = [(.ok, [2, 0])] := by
  decide

/-- R148's table. -/
theorem test_cat_drop :
    (after (.catDrop 9 1) loaded).catalogue.tools = [] ∧
      (after (.catDrop 9 2) loaded).port.replies.map (·.status) = [.notFound] := by decide

/-- R150: tool 1 has one slot of 23 bytes after 14 bytes. -/
theorem test_cat_read :
    (after (.catRead 9 1 1) loaded).port.replies.map (fun r => r.payload.length) = [37] := by decide

/-- R167, R168: the first pass carries generation 1 and RAN. -/
theorem test_name_now :
    (after (.nameNow 9) State.reset).port.replies.map (·.payload) = [[0, 1, 0]] ∧
      (after (.nameNow 9) (on .one (at' .settling .mated))).port.replies.map (·.payload) = [[0, 0, 1]] := by decide

/-- R152: the record after reset, 10 bytes. -/
theorem test_match_read :
    (after (.matchRead 9) State.reset).port.replies.map (·.payload) = [[0, 0, 0, 0, 0, 0, 0, 0, 0, 0]] := by decide

/-- R175: DETACHED after power-on, all lanes EMPTY. -/
theorem test_status :
    (after (.status 9) State.reset).port.replies.map (·.payload) = [[0, 1, 1, 1, 1, 1, 0, 0, 0, 0]] := by decide

/-- R179: RESTART keeps the catalogue and settles a mated lane. -/
theorem test_restart :
    let t := after (.restart 9) { loaded with columns := (on .one (ready .waiting)).columns }
    t.catalogue.tools = [tool] ∧ t.laneState .one = .settling ∧ t.port.replies.map (·.code) = [0x0E] := by decide

/-! ## Parts of rules with worked tables -/

/-- The worked PEEK (4.9): 92 slots; slot 28 is the count's acknowledge, 29 the first data bit, 82 an ACK by the part, 91 its
NAK, 92 the stop slot. -/
theorem test_slots :
    let r := peekRequest 4 36 6
    r.header = 0x24 ∧ r.slots.length = 92 ∧ r.slotAt 28 false = some ⟨.callOut, .deviceAck 3⟩ ∧
      r.slotAt 29 false = some ⟨.callIn, .deviceBit⟩ ∧ r.slotAt 82 false = some ⟨.callIn, .partAck true⟩ ∧
      r.slotAt 91 false = some ⟨.callIn, .partAck false⟩ ∧ r.slotAt 92 true = some ⟨.stop, .stop⟩ ∧
      r.slotAt 92 false = none := by decide

/-- R62: header 0Bh of a PROBE of handle 1 has its first 1 in slot 6; a slot in which no attempt of the call can collide so
changes nothing. -/
theorem test_collision_slots :
    let s := on .one { ready .probing with engine := trying .procedure (probeRequest 1) }
    after (.collision .one ⟨5, .readLow⟩) s = s ∧ ((after (.collision .one ⟨6, .readLow⟩) s).col .one).engine.phase = .closing ∧
      after (.collision .one ⟨12, .heldAtStop⟩) s = s := by decide

/-- 4.5: the check byte of gripper G's record. -/
theorem test_crc : crc8 [0x00, 0x1A, 0x40, 0x00, 0x00, 0x07, 0x20] = 0xC0 := by decide

/-- R76's table at 100 kbit/s: ENROL 83, BIND 74, LEG 20, RELEASE 11 bit times. -/
theorem test_bit_times :
    (enrolRequest.result [true] (List.replicate 8 0)).bitTimes = 83 ∧
      ((bindRequest 1 1).result (List.replicate 8 true) []).bitTimes = 74 ∧
      ((legRequest 1 1).result [true, true] []).bitTimes = 20 ∧ ((releaseRequest 31).result [true] []).bitTimes = 11 := by
  decide

/-! ## Witnesses of the statements' hypotheses

One theorem for each statement of Certificates/Slice0/Obligations.lean that has hypotheses, named after it: operands and
states that meet them together, for each clause, at a boundary of a range where there is one. -/

/-! ### States that the witnesses stand on -/

/-- A port with one reply queued and buffered. -/
def replied : State :=
  { State.reset with
    port := { Port.reset with
      buffer := some (.reply { tag := 7, code := 1, status := .ok, payload := [] })
      replies := [{ tag := 7, code := 1, status := .ok, payload := [] }] } }

/-- A lane in READY with one entry bound. -/
def steady : State := holding (on .one (ready .waiting)) (gripper .one 3 .present)

/-- The part with RESETN low. -/
def lowered : State := after (.hardwareReset .held (PerLane.fill .bare) true) loaded

/-- A transaction at an attempt, its retry limit 3. -/
def attempt (q : Requester) (r : LineRequest) (k : Nat) : Transaction := { request := r, requester := q, retryLimit := 3, attempt := k }

/-- An engine that closes the line after a stall in an attempt. -/
def stalled (q : Requester) (r : LineRequest) (k : Nat) : Engine :=
  { trying q r with phase := .closing, inFlight := some (attempt q r k), lastFailed := some (.stall, none), lda := .released }

/-- A walking lane at an attempt of its request, with this walk. -/
def walkingAt (w : WalkUnit) (r : LineRequest) (k : Nat) : Column :=
  { walking w.phase r with walk := w, engine := { trying .procedure r with inFlight := some (attempt .procedure r k) } }

/-- A walk in a phase, with these frames and this root list. -/
def walk (p : WalkPhase) (stack : List Frame) (root : JunctionList) : WalkUnit :=
  { WalkUnit.reset with phase := p, stack, root, record := WalkRecord.start .running }

/-- A frame of a junction. -/
def frame (j : Nat) (leg : Leg) (list : JunctionList) : Frame := { junction := j, leg, list }

/-- A lane in SWEEPING or PROBING, its unit's call in flight. -/
def calling (p : RollPhase) (position : Option Nat) (r : LineRequest) : Column :=
  { ready p with roll := { (ready p).roll with position }, engine := trying .procedure r, arbiter := granted }

/-- A read of lane 2 whose reply is owed, and its slot. -/
def half : Read := { handle := 3, offset := 16, count := 18, bytes := List.replicate 16 0x11 }

/-- A state whose table holds these entries. -/
def tabled (s : State) (es : List Entry) : State :=
  { s with table := { entries := es, away := (es.filter fun e => e.state == .away).map Entry.key } }

/-- The first k handles of a lane bound, each to its own identity, the last of them in this state. -/
def crowd (n : Lane) (k : Nat) (last : EntryState) : List Entry :=
  (List.range k).map fun i =>
    { gripper n (i + 1) (if i + 1 = k then last else .present) with identity := BitVec.ofNat 48 (i + 1) }

/-- A junction of a lane at the lane root. -/
def junction (n : Lane) (h : Nat) : Entry :=
  { gripper n h .present with identity := 0x12, cls := 1, flags := ⟨true, false, false, false⟩ }

/-- A sufficient condition for the table's invariant, each part of it to be decided. -/
abbrev tableChecks (s : State) : Prop :=
  (∀ e ∈ s.table.entries, (1 ≤ e.key.handle ∧ e.key.handle ≤ 30) ∧ (e.flags.junction = true ↔ e.cls = 1) ∧
    (e.miss ≤ s.settings.lossCount ∧ e.errors ≤ 255) ∧ (e.state = .away → e.name = none ∧ e.slotRef = none)) ∧
  s.table.entries.Pairwise (fun a b => a.key.before b.key = true) ∧
  s.table.entries.Pairwise (fun a b => a.key.lane = b.key.lane → a.identity ≠ b.identity) ∧
  s.table.entries.length + s.reserved ≤ 48 ∧ s.table.away.Nodup ∧
  (∀ k ∈ s.table.away, ∃ e ∈ s.table.entries, e.key = k ∧ e.state = .away) ∧
  (∀ e ∈ s.table.entries, e.state = .away → e.key ∈ s.table.away) ∧ ∀ n ∈ Lane.all, (s.col n).walk.reserves = false

theorem tableInv_of_checks {s : State} (h : tableChecks s) : TableInv s := by
  obtain ⟨entries, ordered, identities, room, once, listed, kept, free⟩ := h
  refine ⟨fun e m => ?_, ordered, identities, room, once, fun k => ⟨listed k, ?_⟩, fun n b hb kind => ?_⟩
  · obtain ⟨hh, hj, hc, hn⟩ := entries e m
    exact ⟨hh, hj, hc.1, hc.2, hn⟩
  · rintro ⟨e, m, rfl, x⟩
    exact kept e m x
  · have := free n (by cases n <;> decide)
    simp [WalkUnit.reserves, hb, kind] at this

/-- A sufficient condition for the catalogue's invariant, each part of it to be decided. -/
abbrev catalogueChecks (c : Catalogue) : Prop :=
  (∀ t ∈ c.tools, (1 ≤ t.number ∧ t.number ≤ 8) ∧
    (∀ x ∈ t.slots, (1 ≤ x.name.length ∧ x.name.length ≤ 8 ∧ x.name.head? ≠ some 0x7E ∧
      ∀ c ∈ x.name, 0x21 ≤ c.toNat ∧ c.toNat ≤ 0x7E) ∧ t.expects.get x.lane ≠ .nothing ∧
      (match x.filling with | .ordinal k => decide (1 ≤ k ∧ k ≤ 8) | .pin _ => true) = true) ∧
    (t.slots.map Slot.name).Nodup ∧
    (∀ i < t.slots.length, ∀ x ∈ t.slots[i]?,
      (if x.parent = 0 then x.leg.isNone && x.depth == 0
       else x.leg.isSome && decide (x.depth ≤ 2) &&
        ((t.slots.take i)[x.parent - 1]?).any fun p => p.cls == 1 && p.lane == x.lane && x.depth == p.depth + 1) = true) ∧
    t.slots.Pairwise fun x y => y.samePin x = false ∧ y.samePosition x = false) ∧
  c.tools.Pairwise (fun t u => t.number < u.number) ∧ (c.tools.map Tool.key).Nodup ∧ c.places ≤ 64

theorem catalogueInv_of_checks {c : Catalogue} (h : catalogueChecks c) : CatalogueInv c := by
  obtain ⟨tools, ascending, keys, places⟩ := h
  refine ⟨fun t ht => ?_, ascending, keys, places⟩
  obtain ⟨number, slots, distinct, fits, apart⟩ := tools t ht
  refine ⟨number, fun x hx => ?_, distinct, fun x hx => (slots x hx).2.1, fun i x hi => ?_, fun x hx k hk => ?_, apart⟩
  · exact (slots x hx).1
  · have hf := fits i (List.getElem?_eq_some_iff.mp hi).1 x hi
    unfold Slot.fits
    split at hf
    · next hp => simpa [hp] using hf
    · next hp =>
      rw [if_neg hp]
      simp only [Bool.and_eq_true, decide_eq_true_eq, Option.any_eq_true, beq_iff_eq] at hf
      obtain ⟨⟨hleg, hd⟩, p, hp, ⟨hc, hlane⟩, hdep⟩ := hf
      exact ⟨hleg, hd, p, hp, hc, hlane, hdep⟩
  · have := (slots x hx).2.2
    rw [hk] at this
    simpa using this

/-- A walk's end has nothing to open where no entry has legs to open. -/
theorem opensNone_of {s : State} {n : Lane} {done : Option Entry}
    (h : ∀ y ∈ s.table.entries, ¬(y.key.lane = n ∧ y.cls = 1)) : s.opensNone n done :=
  fun y m o => absurd ⟨o.1, o.2.2.1⟩ (h y m)

/-! ### The machine as a whole, and its invariants -/

theorem witness_StepRunsFrontCommand : State.reset.pending = [] := by decide

theorem witness_EventsKeepOtherLanes :
    let s := converting State.reset .four .sample true
    (eventLane State.reset (.mateEvent .one (.resistance 0)) = some .one ∧
      exec (.mateEvent .one (.resistance 0)) State.reset = .next (after (.mateEvent .one (.resistance 0)) State.reset)) ∧
    (eventLane s (.sampleJobCompletion 0 0) = some .four ∧
      exec (.sampleJobCompletion 0 0) s = .next (after (.sampleJobCompletion 0 0) s)) := ⟨⟨rfl, rfl⟩, rfl, rfl⟩

theorem witness_RequestFramesDecode :
    (Instr.configure 9 [⟨1, 47⟩]).wf = true ∧ frameOf (.configure 9 [⟨1, 47⟩]) = some [2, 9, 3, 1, 0, 47] ∧
      (window none 3).port.window = .clocking [0, 0, 0] { short := true, full := false } := by decide

theorem witness_PortInvKept :
    let s := { replied with pending := [.chipSelectFall] }
    PortInv s ∧ step s = .next (after .chipSelectFall replied) := ⟨⟨by decide, by decide, rfl⟩, rfl⟩

theorem witness_SupplyAndLanesInvKept :
    let s := { steady with pending := [.tripEvent .one 2001] }
    SupplyInv s ∧ LanesInv s ∧ step s = .next (after (.tripEvent .one 2001) steady) := by
  refine ⟨fun n => ?_, fun n => ?_, rfl⟩
  · cases n <;> constructor <;> decide
  · cases n <;>
      refine ⟨by decide, by decide, by decide, by decide, by decide, by decide, by decide, fun h => absurd h (by decide),
        by decide, by decide, by decide, by decide, by decide, by decide, by decide, by decide, by decide, by decide,
        by decide, by decide, by decide⟩

theorem witness_SettingsCatalogueAndHoldKept :
    (let s := { loaded with pending := [.catDrop 9 1] }
     SettingsInv s.settings ∧ CatalogueInv s.catalogue ∧ step s = .next (after (.catDrop 9 1) loaded)) ∧
    (let s := { lowered with pending := [.mateEvent .one (.resistance 0)] }
     HeldInv s ∧ s.port.resetLow = true ∧ step s = .next lowered) := by
  refine ⟨⟨⟨by decide, by decide, by decide, by decide, by decide, by decide, by decide, by decide, by decide⟩,
    catalogueInv_of_checks (by decide), rfl⟩, ⟨fun _ => ?_, fun _ => ?_⟩, ?_, rfl⟩ <;> decide

theorem witness_TableInvKept :
    let s := { steady with pending := [.deviceClear 9 1 3] }
    TableInv s ∧ step s = .next (after (.deviceClear 9 1 3) steady) := ⟨tableInv_of_checks (by decide), rfl⟩

/-! ### Mating, signatures and the grant window -/

/-- A blanked comparator, RESETN low, and each lane state that the clauses name. -/
theorem witness_ContactEventsOutsidePower :
    (converting (on .two (at' .signature .mated)) .two (.point .p1) true).converter.blanks .two = true ∧
      lowered.port.resetLow = true ∧
      (∀ x ∈ [LaneState.empty, .parting, .off, .fault],
        let s := on .two (at' x .opened)
        s.converter.blanks .two = false ∧ s.port.resetLow = false ∧ 60000 ≤ 60000 ∧ (s.col .two).ctl.reading = .opened ∧
          s.laneState .two = x) ∧
      ∀ x ∈ [LaneState.off, .empty, .settling, .signature, .awaitGrant, .parting, .fault],
        let s := on .two (at' x .mated)
        s.converter.blanks .two = false ∧ s.port.resetLow = false ∧ Contact.reads (.resistance 60001) = .opened ∧
          (s.col .two).ctl.reading = .mated ∧ s.laneState .two = x := by decide

theorem witness_OpenEventLeavesPower :
    Contact.reads .bare = .opened ∧
      ∀ x ∈ [LaneState.powering, .walking, .ready],
        let s := on .two (powered x .policing)
        (s.col .two).ctl.reading = .mated ∧ s.converter.blanks .two = false ∧ s.port.resetLow = false ∧
          (s.laneState .two).powered = true := by decide

theorem witness_LaneTimersExpire :
    (∀ x ∈ [LaneState.settling, .parting],
      let s := on .two { at' x .mated with ctl := { (at' x .mated).ctl with settle := .running 50 } }
      (s.col .two).ctl.settle.isRunning = true ∧ s.laneState .two = x) ∧
    ((on .two { at' .awaitGrant .mated with ctl := { LaneCtl.reset with grantWindow := .running 500 } }).col
      .two).ctl.grantWindow.isRunning = true ∧
    ((on .one { at' .empty .opened with ctl := { LaneCtl.reset with hold := .running 1000 } }).col
      .one).ctl.hold.isRunning = true := by decide

/-- An idle engine, and one that closes the line of an earlier walk. -/
theorem witness_BootWaitExpiryStartsWalk :
    ∀ p ∈ [EnginePhase.idle, .closing],
      let s := on .one { powered .powering .policing with engine := { Engine.reset with phase := p } }
      (s.col .one).ctl.bootWait.isRunning = true ∧ (s.col .one).arbiter.transfer = none ∧ (s.col .one).engine.phase = p := by
  decide

/-! ### LANE_CONTROL -/

theorem witness_GrantAndClearAreTaken :
    laneField 1 = some .one ∧ laneField 4 = some .four ∧
      (∀ m ∈ [Mark.fresh, .stale],
        let s := on .four { at' .awaitGrant .mated with ctl := { (at' .awaitGrant .mated).ctl with mark := m } }
        s.port.takes ∧ s.laneState .four = .awaitGrant ∧ (s.col .four).supervisor.switch = .opened ∧
          (s.col .four).ctl.mark = m) ∧
      (on .one (at' .fault .mated)).port.takes ∧ (on .one (at' .fault .mated)).laneState .one = .fault := by decide

/-- A lane at rest, and one whose read is in flight. -/
theorem witness_RewalkIsTaken :
    (laneField 1 = some .one ∧ steady.port.takes ∧ steady.laneState .one = .ready) ∧
      laneField 2 = some .two ∧ reading.port.takes ∧ reading.laneState .two = .ready := by decide

theorem witness_LaneControlIsRefused :
    State.reset.port.takes ∧ 3 < (4 : Byte).toNat ∧ 4 < (5 : Byte).toNat ∧ (1 : Byte).toNat = Lane.one.number ∧
      (4 : Byte).toNat = Lane.four.number ∧ State.reset.laneState .one ≠ .awaitGrant ∧
      State.reset.laneState .one ≠ .ready ∧ State.reset.laneState .one ≠ .fault := by decide

/-! ### Supply supervision -/

theorem witness_SupplyEventsAreTaken :
    ((steady.laneState .one).powered = true ∧ (steady.col .one).supervisor.cls = some .b ∧
      (steady.col .one).supervisor.phase = .policing ∧ 2 * SupplyClass.b.budget < 2001 ∧ 2000 ≤ 2 * SupplyClass.b.budget) ∧
    (steady.col .one).supervisor.samplePeriod.isRunning = true ∧
    (let s := on .one (powered .powering .inrush)
     (s.col .one).supervisor.inrush.isRunning = true ∧ (s.col .one).supervisor.phase = .inrush ∧
      (s.col .one).supervisor.cls = some .b ∧ (s.laneState .one).powered = true) := by decide

theorem witness_SamplesAreJudged :
    (let s := converting (on .one (powered .powering .check)) .one .sample true
     s.converter.job = some { lane := .one, kind := .sample, live := true } ∧ (s.laneState .one).powered = true ∧
      (s.col .one).supervisor.cls = some .b ∧ (s.col .one).supervisor.phase = .check ∧
      ((s.col .one).supervisor.sampled .b 501 2700).overload < 60 ∧ 2700 ≤ (2700 : Code).toNat ∧
      ((s.col .one).supervisor.sampled .b 501 2699).overload < 60 ∧ (2699 : Code).toNat < 2700) ∧
    (let s := converting (on .one { ready .waiting with supervisor := supply .policing 50 2 }) .one .sample true
     SupplyInv s ∧ s.converter.job = some { lane := .one, kind := .sample, live := true } ∧
      (s.laneState .one).powered = true ∧ (s.col .one).supervisor.cls = some .b ∧ (s.col .one).supervisor.phase = .policing ∧
      ((s.col .one).supervisor.sampled .b 501 2700).overload = 60 ∧
      ((s.col .one).supervisor.sampled .b 500 2699).overload ≠ 60 ∧ 3 ≤ (s.col .one).supervisor.lowCount + 1) :=
  ⟨by decide, fun n => by cases n <;> constructor <;> decide, by decide⟩

/-! ### Signature measurement and the converter -/

theorem witness_MeasurementVerdictFirstTest :
    (4095 : Code) = 4095 ∧ (2400 : Int) ≤ 2400 ∧ (4094 : Code) ≠ 4095 ∧ (-1 : Int) < 0 ∧ (0 : Int) ≤ 39 ∧
      (184 : Int) ≤ 216 ∧ (368 : Int) ≤ 432 ∧ (736 : Int) ≤ 864 ∧ (1472 : Int) ≤ 1728 ∧ (40 : Int) ≤ 183 ∧
      (217 : Int) ≤ 367 ∧ (433 : Int) ≤ 735 ∧ (865 : Int) ≤ 1471 ∧ (1729 : Int) ≤ 2399 := by decide

/-- The record before each of the first three points. -/
theorem witness_PointCodeIsWritten :
    Contact.reads (.resistance 60000) = .mated ∧
      ∀ x ∈ [(Point.p1, { SignatureRecord.cleared with attempts := 1 }),
          (.p2, { SignatureRecord.cleared with attempts := 1, m1 := { Measurement.absent with v1 := some 612 } }),
          (.p1, { threePoints 1 612 1013 0 with m2 := Measurement.absent })],
        let s := converting (on .one { at' .signature .mated with ctl := { (at' .signature .mated).ctl with record := x.2 } })
          .one (.point x.1) true
        s.converter.job = some { lane := .one, kind := .point x.1, live := true } ∧ s.laneState .one = .signature ∧
          (s.col .one).ctl.record.attemptVerdict = none ∧ (s.col .one).ctl.record = x.2 := by decide

/-- The limit cases of one attempt (2.6): slopes 216 and 200, 216 and 199, 20 and 30, 20 and 400; a record before its second
P1; a SPREAD verdict of a second attempt. -/
theorem witness_AttemptIsJudged :
    ((threePoints 1 600 816 600).m1.follows ∧ (threePoints 1 600 620 600).m1.follows) ∧
      ((threePoints 1 600 816 600).m1.v1 = some 600 ∧ (threePoints 1 600 816 600).m1.v2 = some 816 ∧
        (threePoints 1 600 816 600).m2.v1 = some 600 ∧ (threePoints 1 600 620 600).m1.v2 = some 620) ∧
      (measurementVerdict 816 216 = .ofClass .a ∧ measurementVerdict 800 200 = .ofClass .a ∧ (216 - 200 : Int).natAbs ≤ 16) ∧
      (measurementVerdict 799 199 = .ofClass .a ∧ 16 < (216 - 199 : Int).natAbs) ∧
      (measurementVerdict 620 20 = .short ∧ measurementVerdict 630 30 = .short ∧
        measurementVerdict 1000 400 = .ofClass .b) ∧
      (let r := { threePoints 1 612 1013 0 with m2 := Measurement.absent }
       r.m2.v1 = none ∧ r.attemptVerdict = none ∧ r.m1.v1 ≠ none ∧ r.m1.v2 ≠ none) ∧
      ((threePoints 2 610 1012 615).writePoint 995).attemptVerdict = some .spread ∧
      ((threePoints 2 610 1012 615).writePoint 995).attempts < 3 :=
  ⟨⟨⟨rfl, rfl⟩, rfl, rfl⟩, by decide⟩

theorem witness_ValidSeriesIsActedOn :
    Contact.reads (.resistance 60000) = .mated ∧ State.reset.settings.policy.get .one = .held ∧
      (∀ g ∈ [none, some SupplyClass.b, some .c],
        let s := converting (on .one { at' .signature .mated with
          ctl := { (at' .signature .mated).ctl with record := threePoints 2 612 1013 611, grantPending := g } })
          .one (.point .p2) true
        s.converter.job = some { lane := .one, kind := .point .p2, live := true } ∧ s.laneState .one = .signature ∧
          (s.col .one).supervisor.switch = .opened ∧
          ((s.col .one).ctl.record.writePoint 1009).attemptVerdict = some .valid ∧
          ((s.col .one).ctl.record.writePoint 1009).endValid.cls = some .b ∧ (s.col .one).ctl.grantPending = g) ∧
      { Settings.defaults with policy := ⟨.auto, .held, .held, .held⟩ }.policy.get .one = .auto := by decide

theorem witness_FailedAttemptIsRetried :
    Contact.reads (.resistance 60000) = .mated ∧
      (∀ k ∈ [2, 3],
        let s := converting (on .one { at' .signature .mated with
          ctl := { (at' .signature .mated).ctl with record := threePoints k 610 1012 615 } }) .one (.point .p2) true
        s.converter.job = some { lane := .one, kind := .point .p2, live := true } ∧ s.laneState .one = .signature ∧
          ((s.col .one).ctl.record.writePoint 995).attemptVerdict = some .spread ∧
          ((s.col .one).ctl.record.writePoint 995).attempts = k) ∧
      ((threePoints 1 600 1000 600).writePoint 620).attemptVerdict = some (.failed .short) ∧
      ((threePoints 1 600 620 600).writePoint 630).attemptVerdict = some .signatureShort := by decide

/-- A sample and a point no longer live; a live point and one no longer live whose contact has opened. -/
theorem witness_DiscardedResultsAreNotWritten :
    (converting State.reset .one .sample false).converter.job = some { lane := .one, kind := .sample, live := false } ∧
      ((converting State.reset .one (.point .p2) false).converter.job =
          some { lane := .one, kind := .point .p2, live := false } ∧
        Contact.reads (.resistance 60000) = .mated) ∧
      (let s := converting (on .one (at' .signature .mated)) .one (.point .p1) true
       s.converter.job = some { lane := .one, kind := .point .p1, live := true } ∧ Contact.reads .bare = .opened ∧
        s.laneState .one = .signature) ∧
      (let s := converting (on .one (powered .walking .policing)) .one (.point .p1) false
       let t := { s.withColumn .one { s.col .one with ctl := { (s.col .one).ctl with reading := .mated } } with
         converter := { s.converter with job := none } }
       s.converter.job = some { lane := .one, kind := .point .p1, live := false } ∧ s.port.resetLow = false ∧
        exec (.openEvent .one .bare) t = .next (after (.openEvent .one .bare) t)) :=
  ⟨by decide, by decide, by decide, rfl, rfl, rfl⟩

/-- 2.7 at 4 ms: lane 1 was served last, lanes 1 and 3 wait, and lane 3 is served. -/
theorem witness_ConverterServesInRotation :
    let c : Converter :=
      { pointPending := ⟨some .p2, none, none, none⟩, samplePending := ⟨false, false, true, false⟩
        job := some { lane := .one, kind := .point .p1, live := true }, lastServed := .one }
    c.complete.job = some { lane := .three, kind := .sample, live := true } ∧
      Converter.reset.complete.job = none ∧
      { c with samplePending := PerLane.fill false }.complete.job =
        some { lane := .one, kind := .point .p2, live := true } := by decide

/-! ### Plug lines and their engines -/

theorem witness_IdleCheckEnds :
    let c := { ready .probing with engine := { trying .procedure (probeRequest 3) with phase := .idleCheck } }
    let d := { walking .rounds enrolRequest with engine := { trying .procedure enrolRequest with phase := .idleCheck } }
    ((on .one c).col .one).engine.phase = .idleCheck ∧ (on .one c).laneState .one = .ready ∧
      ((on .one d).col .one).engine.phase = .idleCheck ∧ (on .one d).laneState .one = .walking := by decide

/-- A PEEK whose bytes are all acknowledged, and one that ends at its first or its last. -/
theorem witness_AttemptDrivesItsSlots :
    (reading.col .two).engine.phase.attempting = true ∧
      (reading.col .two).engine.inFlight = some (attempt .transfer (peekRequest 3 32 2) 1) ∧
      (∀ i < 1 + (peekRequest 3 32 2).out.length, [true, true, true][i]? = some true) ∧
      ∀ m ∈ [0, 2], m ≤ (peekRequest 3 32 2).out.length ∧ (∀ i < m, (List.replicate m true ++ [false])[i]? = some true) ∧
        (List.replicate m true ++ [false])[m]? ≠ some true := by decide

/-- Slots in which a PROBE of handle 1 can break, and slots in which it cannot: the header is 0Bh, the answer 2 bytes. -/
theorem witness_AttemptsBreakInTheirSlots :
    let r := probeRequest 1
    (r.stalled 28 false).isSome = true ∧ (r.stalled 29 true).isSome = true ∧ (r.stalled 11 true).isSome = true ∧
      (r.collided 1 .clockLow).isSome = true ∧ (r.collided 6 .readLow).isSome = true ∧
      (r.collided 28 .readLow).isSome = true ∧ (r.collided 28 .changed).isSome = true ∧
      (r.collided 29 .heldAtStop).isSome = true ∧ r.stalled 29 false = none ∧ r.stalled 1 false = none ∧
      r.collided 19 .readLow = none ∧ r.collided 5 .readLow = none ∧ r.collided 20 .heldAtStop = none := by decide

/-- A slot in which the attempt cannot break so, and one in which it can, with and without an entry aimed at. -/
theorem witness_BrokenAttemptClosesLine :
    let s := holding (on .one (calling .probing (some 3) (probeRequest 3))) (gripper .one 3 .present)
    (s.col .one).engine.phase.attempting = true ∧
      (s.col .one).engine.inFlight = some (attempt .procedure (probeRequest 3) 1) ∧
      (probeRequest 3).stalled 29 false = none ∧ (probeRequest 3).collided 2 .clockLow = none ∧
      ((probeRequest 3).stalled 2 false).isSome = true ∧ ((probeRequest 3).collided 1 .clockLow).isSome = true ∧
      s.table.find ⟨.one, 3⟩ = some (gripper .one 3 .present) ∧ { s with table := DeviceTable.reset }.table.find ⟨.one, 3⟩ = none := by
  decide

/-- Attempts left; a read's chunk with its attempts spent while roll call's PROBE waits; no transaction, with each pair of
requests. -/
theorem witness_ClosingEnds :
    (let c := { calling .probing (some 3) (probeRequest 3) with engine := stalled .procedure (probeRequest 3) 3 }
     c.engine.phase = .closing ∧ c.engine.inFlight = some (attempt .procedure (probeRequest 3) 3) ∧
      (probeRequest 3).call ≠ .enrol ∧ ¬((probeRequest 3).call = .release ∧ (probeRequest 3).handle = 31) ∧ 3 ≤ 3) ∧
    (let s := { reading with
       columns := reading.columns.set .two { reading.col .two with
         engine := stalled .transfer (peekRequest 3 32 2) 4
         arbiter := { procedure := some (probeRequest 3), transfer := none, lastGrant := .transfer } } }
     (s.col .two).engine.phase = .closing ∧ (s.col .two).engine.inFlight = some (attempt .transfer (peekRequest 3 32 2) 4) ∧
      (peekRequest 3 32 2).call = .peek ∧ 3 < 4 ∧ (s.col .two).engine.lastFailed = some (.stall, none) ∧
      (s.col .two).slot = .busy half ∧ s.port.owed.get .two = some 0x40 ∧ (s.col .two).ctl.rewalkWaiting = false ∧
      (s.col .two).arbiter.procedure = some (probeRequest 3) ∧ (s.col .two).arbiter.transfer = none) ∧
    ∀ p ∈ [none, some (releaseRequest 31)], ∀ q ∈ [none, some (peekRequest 3 0 16)],
      ∀ g ∈ [LastGrant.none, .procedure, .transfer],
        let c := { ready .waiting with
          engine := { Engine.reset with phase := .closing }, arbiter := { procedure := p, transfer := q, lastGrant := g } }
        c.engine.phase = .closing ∧ c.engine.inFlight = none ∧ c.arbiter.procedure = p ∧ c.arbiter.transfer = q ∧
          c.arbiter.lastGrant = g := by decide

/-- The header's acknowledge missing, and the last byte's; a PROBE and a PEEK of 2 bytes whose check is bad. -/
theorem witness_MissingAckIsRetried :
    (∀ x ∈ [(probeRequest 3, [true], [(0x41 : Byte), 0x00]), (peekRequest 3 32 2, [true, true, true], [0x41, 0x42, 0x00])],
      let s := on .one (walkingAt (walk .binding [] JunctionList.empty) x.1 3)
      (s.col .one).engine.phase.attempting = true ∧ (s.col .one).engine.inFlight = some (attempt .procedure x.1 3) ∧
        (x.1.call = .probe ∨ x.1.call = .peek) ∧ (∀ i < 1 + x.1.out.length, x.2.1[i]? = some true) ∧
        x.2.2.length = (if x.1.call = .probe then 2 else (x.1.out.getD 1 0).toNat + 1) ∧
        crc8 x.2.2.dropLast ≠ x.2.2.getLastD 0) ∧
    let s := on .one (walkingAt (walk .binding [] JunctionList.empty) (bindRequest 1 30) 3)
    (s.col .one).engine.phase.attempting = true ∧ (s.col .one).engine.inFlight = some (attempt .procedure (bindRequest 1 30) 3) ∧
      (bindRequest 1 30).call ≠ .peek ∧ (bindRequest 1 30).call ≠ .enrol ∧ (bindRequest 1 30).call ≠ .release ∧
      (∀ k ∈ [0, 7], k ≤ (bindRequest 1 30).out.length ∧
        (List.replicate k true ++ [false]).take k = List.replicate k true ∧
        (List.replicate k true ++ [false])[k]? ≠ some true) := by decide

/-- Gripper G of the worked arbitration (4.6). -/
def deviceG : Device :=
  { identity := 0x001A40000007, cls := 0x20, status := 0, memory := [], handle := none, legA := false, legB := false
    under := none }

/-- Gripper G's record. -/
def recordG : List Byte := [0x00, 0x1A, 0x40, 0x00, 0x00, 0x07, 0x20, 0xC0]

/-- The worked arbitration (4.6): gripper G against gripper H, with a third device of G's identity and a larger class. -/
theorem witness_ArbitrationReadsSmallestRecord :
    let ds := [{ deviceG with identity := 0x001A40010005 }, deviceG, { deviceG with cls := 0x21 }]
    deviceG ∈ ds ∧
      (∀ e ∈ ds, e.record = deviceG.record ∨ deviceG.identity.toNat < e.identity.toNat ∨
        (deviceG.identity = e.identity ∧ deviceG.cls.toNat < e.cls.toNat)) ∧
      deviceG.record = [0x00, 0x1A, 0x40, 0x00, 0x00, 0x07, 0x20, 0xC0] := by decide

/-- The worked PEEK that runs past memory (4.9) ends at a device's last byte. -/
theorem witness_UndisturbedCallsRead :
    let d : Device := { deviceG with memory := List.replicate 40 1, handle := some 3 }
    addressed [] enrolRequest = [] ∧ addressed [d] enrolRequest = [] ∧ addressed [d] (probeRequest 4) = [] ∧
      addressed [d] (peekRequest 4 0 1) = [] ∧ addressed [d] (probeRequest 3) = [d] ∧
      addressed [d] (peekRequest 3 39 16) = [d] ∧ 39 < d.memory.length := by decide

/-- A part that breaks off in the stop slot's last stage and before it; a stage whose release makes no stop. -/
theorem witness_StopsActOnCompleteDevices :
    1 ≤ 30 ∧ (3 : Byte).toNat ≤ 3 ∧ (probeRequest 3).call = .probe ∧
      (let x : WireStage := ⟨.start, .released, .low⟩
       x.lck = .released ∧ x.lda = .low ∧ 1 + 1 < 2 + 9 * (probeRequest 3).bytes) ∧
      (let x : WireStage := ⟨.stop, .released, .low⟩
       x.lck = .released ∧ x.lda = .low ∧ 28 + 1 = 2 + 9 * (probeRequest 3).bytes ∧ 29 = 2 + 9 * (probeRequest 3).bytes) ∧
      (⟨.header, .low, .low⟩ : WireStage).lck = .low ∧ (⟨.header, .released, .released⟩ : WireStage).lda = .released ∧
      (⟨.low, .released⟩ : DeviceDrives).lck = .low ∧ (⟨.released, .low⟩ : DeviceDrives).lda = .low := by
  decide

/-- A BIND of gripper G to handle 3, broken off in its stop slot: the stop was made; LCK is held LOW, so that none is; and one
broken off in the start slot, where the release of LDA is a stop that comes too early. -/
theorem test_broken_bind_stops :
    let r := bindRequest deviceG.identity 3
    let free : DeviceDrives := ⟨.released, .released⟩
    let bound := fun slot trail => (afterBreak [{ deviceG with handle := none }] r slot trail).map fun x => x.device.handle
    bound 74 ((stopSlot.stages ++ givenUpStages).map fun x => (x, free)) = [some 3] ∧
      bound 74 (((stopSlot.stages.take 2) ++ givenUpStages).map fun x => (x, ⟨.low, .released⟩)) = [none] ∧
      bound 1 [(⟨.start, .released, .low⟩, free), (⟨.closing, .released, .released⟩, free)] = [none] := by decide

/-- R64, R65, R69, in the worked arbitration (4.6): G and H both drive the header's acknowledge low and may stretch its slot;
their first 31 record bits agree; at bit 32 G drives low, while H releases, reads a 0, and has lost: it drives nothing more, its
0 at the class byte's first bit included, while G goes on to its last byte. -/
theorem test_arbitration_drives :
    let h : Device := { deviceG with identity := 0x001A40010005 }
    let read := (bitsOf recordG).take 32
    (∀ d ∈ [deviceG, h], d.lda enrolRequest 0 [] (.deviceAck 1) = .low ∧ (d.standing enrolRequest 0 []).mayStretch = true) ∧
      (bitsOf h.record).take 31 = read.take 31 ∧ deviceG.lda enrolRequest 4 (read.take 31) .deviceBit = .low ∧
      h.lda enrolRequest 4 (read.take 31) .deviceBit = .released ∧ h.standing enrolRequest 5 read = .out ∧
      (h.standing enrolRequest 5 read).mayStretch = false ∧
      h.lda enrolRequest 7 ((bitsOf recordG).take 48) .deviceBit = .released ∧
      deviceG.lda enrolRequest 7 ((bitsOf recordG).take 48) .deviceBit = .low ∧
      deviceG.standing enrolRequest 5 read = .taking ∧ deviceG.standing enrolRequest 9 (bitsOf recordG) = .complete := by decide

/-! ### Discovery walk and device table -/

/-- Acknowledged and not, with no entry 31; disturbed at the last release the retry limit 3 allows, and beyond it, its closing
ended either way. -/
theorem witness_OpeningReleaseTurnsAway :
    (let s := holding (on .one (walkingAt (walk .releasing [] JunctionList.empty) (releaseRequest 31) 1)) (gripper .one 3 .lost)
     (s.col .one).engine.inFlight = some (attempt .procedure (releaseRequest 31) 1) ∧ 1 ≤ 1 ∧
      (s.col .one).walk.phase = .releasing ∧ (s.col .one).arbiter = granted ∧
      (s.col .one).engine.phase.attempting = true ∧ s.table.find ⟨.one, 31⟩ = none) ∧
    (∀ k ∈ [2, 3],
      let s := on .one { walkingAt (walk .releasing [] JunctionList.empty) (releaseRequest 31) 1 with
        walk := { walk .releasing [] JunctionList.empty with releases := k }
        engine := stalled .procedure (releaseRequest 31) 1 }
      (s.col .one).engine.inFlight = some (attempt .procedure (releaseRequest 31) 1) ∧
        (s.col .one).walk.phase = .releasing ∧ (s.col .one).arbiter = granted ∧ (s.col .one).engine.phase = .closing ∧
        (s.col .one).engine.lastFailed = some (.stall, none) ∧ s.laneState .one = .walking ∧
        (s.col .one).walk.releases + 1 = k + 1 ∧ (k + 1 ≤ s.settings.retryLimit ∨ s.settings.retryLimit < k + 1)) ∧
    endsClosing (.closingStop .one) .one closingStopStages ∧ endsClosing (.closingGivenUp .one) .one givenUpStages :=
  ⟨by decide, by decide, .inl ⟨rfl, rfl⟩, .inr ⟨rfl, rfl⟩⟩

/-- A NEW binding at the root and a REFOUND one beneath a junction, whose entry is AWAY: done, and at the fourth attempt's end,
its header or its last byte not acknowledged or its line closed. -/
theorem witness_BindWritesEntry :
    (∀ x ∈ [(BindingKind.new, ([] : List Frame)), (.refound, [frame 1 .b JunctionList.empty])], ∀ k ∈ [1, 4],
      let b : PendingBinding := { identity := 0x001A40000007, cls := 1, handle := 30, kind := x.1 }
      let c := walkingAt { walk .binding x.2 JunctionList.empty with binding := some b } (bindRequest 0x001A40000007 30) k
      let s := holding (on .one c) (gripper .one 30 .away)
      let z := holding (on .one { c with engine := stalled .procedure (bindRequest 0x001A40000007 30) k }) (gripper .one 30 .away)
      (s.col .one).engine.phase.attempting = true ∧
        (s.col .one).engine.inFlight = some (attempt .procedure (bindRequest b.identity b.handle) k) ∧
        (s.col .one).walk.phase = .binding ∧ (s.col .one).walk.binding = some b ∧ b.kind = x.1 ∧
        (s.col .one).arbiter = granted ∧ b.handle ≤ 30 ∧ (z.col .one).engine.phase = .closing ∧
        (z.col .one).engine.inFlight = some (attempt .procedure (bindRequest b.identity b.handle) k) ∧
        (z.col .one).walk.phase = .binding ∧ (z.col .one).walk.binding = some b ∧ (z.col .one).arbiter = granted) ∧
    (∀ k ∈ [0, 7], k ≤ 7 ∧ (∀ i < k, (List.replicate k true)[i]? = some true) ∧ (List.replicate k true)[k]? ≠ some true ∧
      (attempt .procedure (bindRequest 0 30) 4).retryLimit < 4) ∧
    endsClosing (.closingStop .one) .one closingStopStages ∧ endsClosing (.closingGivenUp .one) .one givenUpStages :=
  ⟨by decide, by decide, .inl ⟨rfl, rfl⟩, .inr ⟨rfl, rfl⟩⟩

/-- Lane 1 in its rounds, with a table. -/
def rounding (es : List Entry) : State := tabled (on .one (walkingAt (walk .rounds [] JunctionList.empty) enrolRequest 1)) es

/-- What every clause on a winning round asks of the state. -/
abbrev winning (s : State) : Prop :=
  (s.col .one).engine.phase.attempting = true ∧ (s.col .one).engine.inFlight = some (attempt .procedure enrolRequest 1) ∧
    (s.col .one).walk.phase = .rounds ∧ s.laneState .one = .walking ∧ (s.col .one).arbiter = granted ∧
    recordG.length = 8 ∧ crc8 (recordG.take 7) = recordG.getLastD 0 ∧ (s.col .one).walk.binding = none

/-- The entries of 48 slots, lane 1 empty, the last entry in this state. -/
def fullTable (last : EntryState) : List Entry :=
  crowd .two 16 .present ++ crowd .three 16 .present ++ crowd .four 16 last

/-- What the clauses on an unknown identity ask, for the handle it would take. -/
abbrev unknownAt (s : State) (h : Nat) : Prop :=
  (∀ x ∈ s.table.ofLane .one, x.identity ≠ identityOf recordG ∧ x.key.handle ≠ h) ∧
    (∀ i < h, 1 ≤ i → ∃ x ∈ s.table.ofLane .one, x.key.handle = i)

theorem witness_winning_known :
    (∀ x ∈ [EntryState.away, .present], TableInv (rounding [gripper .one 3 x]) ∧ winning (rounding [gripper .one 3 x]) ∧
      gripper .one 3 x ∈ (rounding [gripper .one 3 x]).table.ofLane .one ∧
      (gripper .one 3 x).identity = identityOf recordG ∧ (gripper .one 3 x).state = x) ∧
    0 + 1 ≤ (rounding []).settings.retryLimit := by
  refine ⟨fun x h => ⟨tableInv_of_checks ?_, ?_⟩, by decide⟩ <;> revert x <;> decide

theorem witness_winning_lowest :
    TableInv (rounding (crowd .one 29 .present)) ∧ winning (rounding (crowd .one 29 .present)) ∧
      unknownAt (rounding (crowd .one 29 .present)) 30 ∧
      (rounding (crowd .one 29 .present)).table.entries.length + (rounding (crowd .one 29 .present)).reservedElsewhere .one < 48 :=
  ⟨tableInv_of_checks (by decide +kernel), by decide +kernel⟩

theorem witness_winning_full :
    ∀ x ∈ [EntryState.away, .present],
      TableInv (rounding (fullTable x)) ∧ winning (rounding (fullTable x)) ∧ unknownAt (rounding (fullTable x)) 1 ∧
        48 ≤ (rounding (fullTable x)).table.entries.length + (rounding (fullTable x)).reservedElsewhere .one ∧
        (rounding (fullTable x)).table.away = (if x = .away then [⟨.four, 16⟩] else []) ∧
        (rounding (fullTable x)).opensNone .one none := by
  intro x h
  refine ⟨tableInv_of_checks ?_, ?_, ?_, ?_, ?_, opensNone_of ?_⟩ <;> revert x <;> decide +kernel

theorem witness_winning_exhausted :
    ∀ x ∈ [EntryState.away, .present],
      TableInv (rounding (crowd .one 30 x)) ∧ winning (rounding (crowd .one 30 x)) ∧
        (∀ e ∈ (rounding (crowd .one 30 x)).table.ofLane .one, e.identity ≠ identityOf recordG) ∧
        (∀ i < 31, 1 ≤ i → ∃ e ∈ (rounding (crowd .one 30 x)).table.ofLane .one, e.key.handle = i) ∧
        (rounding (crowd .one 30 x)).table.away = (if x = .away then [⟨.one, 30⟩] else []) := by
  intro x h
  refine ⟨tableInv_of_checks ?_, ?_⟩ <;> revert x <;> decide +kernel

/-- An identity AWAY and PRESENT; the lowest free handle 30; 48 entries with one AWAY and with none; 30 handles with one AWAY
and with none; a stop with a junction to open and with none. No binding is pending, so that no entry is held. -/
theorem witness_WinningRoundChoosesHandle :
    winning (rounding [gripper .one 3 .away]) ∧ winning (rounding [gripper .one 3 .present]) ∧
      winning (rounding (crowd .one 29 .present)) ∧ winning (rounding (fullTable .away)) ∧
      winning (rounding (fullTable .present)) ∧ winning (rounding (crowd .one 30 .away)) ∧
      winning (rounding (crowd .one 30 .present)) ∧
      (let s := rounding (junction .one 1 :: (fullTable .present).tail)
       TableInv s ∧ winning s ∧ unknownAt s 2 ∧ 48 ≤ s.table.entries.length + s.reservedElsewhere .one ∧
        s.table.away = [] ∧ s.opensNext .one none (junction .one 1)) := by
  refine ⟨(witness_winning_known.1 _ (by decide)).2.1, (witness_winning_known.1 _ (by decide)).2.1,
    witness_winning_lowest.2.1, (witness_winning_full _ (by decide)).2.1, (witness_winning_full _ (by decide)).2.1,
    (witness_winning_exhausted _ (by decide)).2.1, (witness_winning_exhausted _ (by decide)).2.1,
    tableInv_of_checks (by decide +kernel), ?_⟩
  unfold State.opensNext Entry.opened Entry.opensBefore
  decide +kernel

/-- Lane 1 in its rounds, with this walk. -/
def roundsOf (stack : List Frame) (root : JunctionList) : State :=
  on .one (walkingAt (walk .rounds stack root) enrolRequest 1)

/-- A junction left at the root and beneath one; a segment done on leg A and on leg B; a junction beneath two, on each leg. -/
theorem witness_UnansweredRoundTakesJunctions :
    (∀ x ∈ [(([] : List Frame), JunctionList.mk [1, 2] 1), ([frame 1 .a ⟨[4], 0⟩], JunctionList.mk [1] 1),
        ([frame 1 .a ⟨[4], 1⟩], JunctionList.mk [1] 1), ([frame 1 .b ⟨[], 0⟩], JunctionList.mk [1] 1),
        ([frame 4 .a ⟨[5, 6], 0⟩, frame 1 .a ⟨[4], 1⟩], JunctionList.mk [1] 1),
        ([frame 4 .b ⟨[5, 6], 0⟩, frame 1 .a ⟨[4], 1⟩], JunctionList.mk [1] 1)],
      let s := roundsOf x.1 x.2
      (s.col .one).engine.phase.attempting = true ∧ (s.col .one).engine.inFlight = some (attempt .procedure enrolRequest 1) ∧
        1 ≤ 1 ∧ [false].headD false = false ∧ (s.col .one).walk.phase = .rounds ∧ s.table.find ⟨.one, 0⟩ = none ∧
        (s.col .one).arbiter = granted ∧ (s.col .one).walk.stack = x.1 ∧ (s.col .one).walk.root = x.2) ∧
      [1, 2].drop 1 = 2 :: [] ∧ [4].drop 0 = 4 :: [] ∧ [4].drop 1 = [] ∧ [5, 6].drop 0 = 5 :: [6] := by decide

/-- Lane 1 with a walk's request in flight at attempt k, m rounds failed in a row, and gripper G at handle 3, AWAY where a binding
is pending. -/
def failing (p : WalkPhase) (b : Option PendingBinding) (m k : Nat) (closing : Bool) (r : LineRequest) : State :=
  let c := walkingAt { walk p [] ⟨[1], 1⟩ with binding := b, failedInRow := m } r k
  tabled (on .one (if closing then { c with engine := stalled .procedure r k } else c))
    [gripper .one 3 (if b.isSome then .away else .present)]

/-- What every clause on a failed round asks of the state besides. -/
abbrev failable (s : State) (r : LineRequest) (m k : Nat) : Prop :=
  (s.col .one).engine.inFlight = some (attempt .procedure r k) ∧ 1 ≤ k ∧ s.table.find ⟨.one, 0⟩ = none ∧
    (s.col .one).arbiter = granted ∧ (s.col .one).walk.failedOnce.failedInRow = m + 1 ∧
    (m + 1 ≤ s.settings.retryLimit ∨ s.settings.retryLimit < m + 1)

/-- Each way in which a round fails, as the third and as the fourth in a row at a retry limit of 3. -/
theorem witness_rounds_fail :
    let b : PendingBinding := { identity := 0x001A40000007, cls := 0x20, handle := 3, kind := .refound }
    let spoilt := recordG.take 7 ++ [0xC1]
    ∀ m ∈ [2, 3],
      (let s := failing .rounds none m 1 false enrolRequest
       TableInv s ∧ failable s enrolRequest m 1 ∧
        (∃ x, RoundFails s .one (attempt .procedure enrolRequest 1) (.attemptEnd .one [true] spoilt) x) ∧
        ∃ x, RoundFails s .one (attempt .procedure enrolRequest 1) (.attemptEnd .one [true] recordG) x) ∧
      (let s := failing .rounds none m 1 true enrolRequest
       TableInv s ∧ failable s enrolRequest m 1 ∧
        ∃ x, RoundFails s .one (attempt .procedure enrolRequest 1) (.closingStop .one) x) ∧
      (let s := failing .binding (some b) m 1 false (releaseRequest 3)
       TableInv s ∧ failable s (releaseRequest 3) m 1 ∧
        ∃ x, RoundFails s .one (attempt .procedure (releaseRequest 3) 1) (.attemptEnd .one [true] []) x) ∧
      (let s := failing .binding (some b) m 4 false (releaseRequest 3)
       TableInv s ∧ failable s (releaseRequest 3) m 4 ∧
        ∃ x, RoundFails s .one (attempt .procedure (releaseRequest 3) 4) (.attemptEnd .one [] []) x) ∧
      (let s := failing .binding (some b) m 4 true (releaseRequest 3)
       TableInv s ∧ failable s (releaseRequest 3) m 4 ∧
        ∃ x, RoundFails s .one (attempt .procedure (releaseRequest 3) 4) (.closingGivenUp .one) x) := by
  have rounds : ∀ m ∈ [2, 3], ∀ c ∈ [true, false],
      tableChecks (failing .rounds none m 1 c enrolRequest) ∧ failable (failing .rounds none m 1 c enrolRequest) enrolRequest m 1 ∧
        gripper .one 3 .present ∈ (failing .rounds none m 1 c enrolRequest).table.ofLane .one := by decide
  have binding : ∀ m ∈ [2, 3], ∀ k ∈ [1, 4], ∀ c ∈ [true, false],
      let s := failing .binding (some { identity := 0x001A40000007, cls := 0x20, handle := 3, kind := .refound }) m k c (releaseRequest 3)
      tableChecks s ∧ failable s (releaseRequest 3) m k := by decide
  intro b spoilt m hm
  have open' := rounds m hm false (by decide)
  have shut := rounds m hm true (by decide)
  have first := binding m hm 1 (by decide) false (by decide)
  have last := binding m hm 4 (by decide)
  exact ⟨⟨tableInv_of_checks open'.1, open'.2.1, ⟨_, .badCheck [true] _ rfl rfl rfl rfl rfl (by decide)⟩,
      _, .refused [true] recordG (gripper .one 3 .present) rfl rfl rfl rfl rfl (by decide) open'.2.2 (by decide) (by decide)⟩,
    ⟨tableInv_of_checks shut.1, shut.2.1, _, .broken _ closingStopStages .stall (.inl ⟨rfl, rfl⟩) rfl rfl rfl rfl (.inl rfl)⟩,
    ⟨tableInv_of_checks first.1, first.2, _, .released [true] [] b rfl rfl rfl rfl rfl⟩,
    ⟨tableInv_of_checks (last false (by decide)).1, (last false (by decide)).2, _,
      .unheard [] [] b rfl rfl rfl rfl rfl (by decide)⟩,
    ⟨tableInv_of_checks (last true (by decide)).1, (last true (by decide)).2, _,
      .unreleased _ givenUpStages b (.inr ⟨rfl, rfl⟩) rfl rfl rfl rfl (by decide)⟩⟩

/-- A fourth failed round in a row: each place in the tree that the junction clauses name; and at the root with no junction left,
where an opened junction is in the table and where none is. -/
theorem witness_segment_abandoned :
    (∀ x ∈ [(([] : List Frame), JunctionList.mk [1, 2] 1), ([frame 1 .a ⟨[4], 0⟩], JunctionList.mk [1] 1),
        ([frame 1 .a ⟨[4], 1⟩], JunctionList.mk [1] 1), ([frame 1 .b ⟨[], 0⟩], JunctionList.mk [1] 1),
        ([frame 4 .a ⟨[5, 6], 0⟩, frame 1 .a ⟨[4], 1⟩], JunctionList.mk [1] 1),
        ([frame 4 .b ⟨[5, 6], 0⟩, frame 1 .a ⟨[4], 1⟩], JunctionList.mk [1] 1)],
      let c := walkingAt { walk .rounds x.1 x.2 with failedInRow := 3 } enrolRequest 1
      let s := on .one { c with engine := stalled .procedure enrolRequest 1 }
      TableInv s ∧ failable s enrolRequest 3 1 ∧ (s.col .one).walk.failedOnce.stack = x.1 ∧
        (s.col .one).walk.failedOnce.root = x.2 ∧
        RoundFails s .one (attempt .procedure enrolRequest 1) (.closingStop .one) (s.closed .one closingStopStages)) ∧
    (let s := failing .rounds none 3 1 true enrolRequest
     RoundFails s .one (attempt .procedure enrolRequest 1) (.closingStop .one) (s.closed .one closingStopStages) ∧
      (s.col .one).walk.failedOnce.stack = [] ∧ [1].drop 1 = ([] : List Nat) ∧ s.laneState .one = .walking ∧
      (s.closed .one closingStopStages).opensNone .one none) ∧
    (let s := tabled (failing .rounds none 3 1 true enrolRequest) [junction .one 1]
     TableInv s ∧ RoundFails s .one (attempt .procedure enrolRequest 1) (.closingStop .one) (s.closed .one closingStopStages) ∧
      (s.closed .one closingStopStages).opensNext .one none (junction .one 1)) := by
  refine ⟨fun x h => ⟨tableInv_of_checks ?_, ?_, rfl, rfl, .broken _ _ .stall (.inl ⟨rfl, rfl⟩) rfl rfl rfl rfl (.inl rfl)⟩,
    ⟨.broken _ _ .stall (.inl ⟨rfl, rfl⟩) rfl rfl rfl rfl (.inl rfl), rfl, rfl, rfl, opensNone_of (by decide)⟩,
    tableInv_of_checks (by decide), .broken _ _ .stall (.inl ⟨rfl, rfl⟩) rfl rfl rfl rfl (.inl rfl), ?_⟩
  · revert x; decide
  · revert x; decide
  · unfold State.opensNext Entry.opened Entry.opensBefore
    decide

/-- Lane 1 at an attempt of a LEG of handle 1 that explores a junction; junctions 1 and 2 are bound at the root. -/
def legging (byte : Byte) (k : Nat) (stack : List Frame) (root : JunctionList) : State :=
  tabled (on .one (walkingAt (walk .junctions stack root) (legRequest 1 byte) k))
    [junction .one 1, { junction .one 2 with identity := 0x13 }]

/-- What every clause on the ends of LEG calls asks of the state. -/
abbrev legEnds (s : State) (byte : Byte) (k : Nat) : Prop :=
  (s.col .one).engine.phase.attempting = true ∧
    (s.col .one).engine.inFlight = some (attempt .procedure (legRequest 1 byte) k) ∧
    (s.col .one).walk.phase = .junctions ∧ s.laneState .one = .walking ∧ (s.col .one).arbiter = granted

/-- The state in which the first failed LEG of a walk leaves lane 1: its junction's entry flagged. -/
def flagged (s : State) : State := s.legFlagged .one 1

/-- Lane 1 as `s`, its request's last attempt disturbed and the line being closed. -/
def closingOf (r : LineRequest) (s : State) : State :=
  s.withColumn .one { s.col .one with engine := stalled .procedure r 4 }

/-- What the clauses on a closing's end ask of the engine. -/
abbrev closes (s : State) (r : LineRequest) : Prop :=
  (s.col .one).engine.phase = .closing ∧ (s.col .one).engine.inFlight = some (attempt .procedure r 4) ∧
    (s.col .one).engine.lastFailed = some (.stall, none) ∧ 3 < 4

/-- Each LEG done, 00h with a junction left above, with none at the root, and on either leg above; each LEG failed at its
attempts' end, on its first byte or its second or at its closing's end; with a junction left to open and with none. -/
theorem witness_LegEndsMoveTheWalk :
    (∀ x ∈ [((0x01 : Byte), 1, [frame 1 .a ⟨[], 0⟩], JunctionList.mk [1, 2] 1), (0x02, 1, [frame 1 .b ⟨[], 0⟩], ⟨[1, 2], 1⟩),
        (0x00, 1, [frame 1 .b ⟨[], 0⟩], ⟨[1, 2], 1⟩), (0x00, 1, [frame 1 .b ⟨[], 0⟩], ⟨[1], 1⟩),
        (0x00, 1, [frame 1 .b ⟨[], 0⟩, frame 2 .a ⟨[1, 3], 1⟩], ⟨[2], 1⟩),
        (0x00, 1, [frame 1 .b ⟨[], 0⟩, frame 2 .a ⟨[1], 1⟩], ⟨[2], 1⟩),
        (0x00, 1, [frame 1 .b ⟨[], 0⟩, frame 2 .b ⟨[1], 1⟩], ⟨[2], 1⟩), (0x01, 4, [frame 1 .a ⟨[], 0⟩], ⟨[1, 2], 1⟩),
        (0x02, 4, [frame 1 .b ⟨[], 0⟩], ⟨[1, 2], 1⟩), (0x00, 4, [frame 1 .b ⟨[], 0⟩], ⟨[1, 2], 1⟩)],
      let s := legging x.1 x.2.1 x.2.2.1 x.2.2.2
      let z := closingOf (legRequest 1 x.1) s
      TableInv s ∧ legEnds s x.1 x.2.1 ∧ (s.col .one).walk.stack = x.2.2.1 ∧ (s.col .one).walk.root = x.2.2.2 ∧
        TableInv z ∧ closes z (legRequest 1 x.1) ∧ (z.col .one).walk = (s.col .one).walk ∧ z.laneState .one = .walking ∧
        (z.col .one).arbiter = granted) ∧
    (∀ i ∈ [0, 1], i ≤ 1 ∧ (∀ m < i, (List.replicate i true ++ [false])[m]? = some true) ∧
      (List.replicate i true ++ [false])[i]? ≠ some true ∧ 3 < 4) ∧
    (let s := legging 0x00 1 [frame 1 .b ⟨[], 0⟩] ⟨[1], 1⟩
     let q := (legRequest 1 0x00).run [true, true] []
     let result : AttemptResult := { outcome := .done, failedByte := none, bytesRead := none, bitTimes := 20 }
     (s.handed .one result q.stages).opensNext .one none (junction .one 1) ∧
      ((tabled s []).handed .one result q.stages).opensNone .one none) ∧
    (let s := legging 0x00 4 [frame 1 .b ⟨[], 0⟩] ⟨[1, 2], 1⟩
     let q := (legRequest 1 0x00).run [] []
     let result : AttemptResult := { outcome := .noAck, failedByte := some 1, bytesRead := none, bitTimes := 11 }
     (flagged ((countLineError ⟨.one, 1⟩ s).handed .one result q.stages)).opensNext .one none
        { junction .one 2 with identity := 0x13 } ∧
      (flagged ((countLineError ⟨.one, 1⟩ (tabled s [])).handed .one result q.stages)).opensNone .one none) ∧
    (let z := closingOf (legRequest 1 0x00) (legging 0x00 4 [frame 1 .b ⟨[], 0⟩] ⟨[1, 2], 1⟩)
     (flagged (z.closed .one closingStopStages)).opensNext .one none { junction .one 2 with identity := 0x13 } ∧
      (flagged ((tabled z []).closed .one givenUpStages)).opensNone .one none) := by
  refine ⟨fun x h => ⟨tableInv_of_checks ?_, ?_, ?_, ?_, tableInv_of_checks ?_, ?_⟩, by decide, ⟨?_, opensNone_of (by decide)⟩,
    ⟨?_, opensNone_of (by decide)⟩, ⟨?_, opensNone_of (by decide)⟩⟩
  iterate 6 (revert x; decide)
  all_goals
    unfold State.opensNext Entry.opened Entry.opensBefore
    decide

/-- Lane 1 at the end of its rounds at the root, junctions 1 and 2 bound. -/
def rounded (es : List Entry) : State :=
  tabled (on .one (walkingAt (walk .rounds [] ⟨[1], 1⟩) enrolRequest 1)) es

/-- Lane 1 at an attempt of the LEG 03h of junction 1. -/
def opening (k : Nat) (es : List Entry) : State :=
  tabled (on .one (walkingAt (walk .finishing [] JunctionList.empty) (legRequest 1 0x03) k)) es

/-- The first junction opened, or none to open; after the first the second, or no other; the same after its failure, at its
attempts' end and at its closing's end. -/
theorem witness_WalkEndOpensLegs :
    let both := [junction .one 1, { junction .one 2 with identity := 0x13 }]
    let second : Entry := { junction .one 2 with identity := 0x13 }
    let r := legRequest 1 0x03
    let silent : AttemptResult := { outcome := .noAck, failedByte := some 1, bytesRead := none, bitTimes := 11 }
    (∀ es ∈ [[], [junction .one 1, { junction .one 2 with identity := 0x13 }]],
      let s := rounded es
      TableInv s ∧ (s.col .one).engine.phase.attempting = true ∧
        (s.col .one).engine.inFlight = some (attempt .procedure enrolRequest 1) ∧ s.laneState .one = .walking ∧
        (s.col .one).arbiter = granted ∧ [false].headD false = false ∧ (s.col .one).walk.phase = .rounds ∧
        (s.col .one).walk.stack = [] ∧ (s.col .one).walk.root.handles.drop (s.col .one).walk.root.taken = []) ∧
    (∀ es ∈ [[junction .one 1], [junction .one 1, { junction .one 2 with identity := 0x13 }]], ∀ k ∈ [1, 4],
      let s := opening k es
      let z := closingOf (legRequest 1 0x03) s
      TableInv s ∧ (s.col .one).engine.phase.attempting = true ∧
        (s.col .one).engine.inFlight = some (attempt .procedure (legRequest (junction .one 1).key.handle 0x03) k) ∧
        s.laneState .one = .walking ∧ (s.col .one).arbiter = granted ∧ (s.col .one).walk.phase = .finishing ∧
        junction .one 1 ∈ s.table.entries ∧ (junction .one 1).key.lane = .one ∧ [true, false][0]? = some true ∧
        [true, false][1]? ≠ some true ∧ (k = 4 → 3 < k) ∧ TableInv z ∧ closes z (legRequest 1 0x03) ∧
        z.laneState .one = .walking ∧ (z.col .one).arbiter = granted ∧ (z.col .one).walk = (s.col .one).walk) ∧
    ((rounded both).handed .one silent (enrolRequest.run [false] []).stages).opensNext .one none (junction .one 1) ∧
    ((rounded []).handed .one silent (enrolRequest.run [false] []).stages).opensNone .one none ∧
    (opening 1 both).opensNext .one (some (junction .one 1)) second ∧
    (opening 1 [junction .one 1]).opensNone .one (some (junction .one 1)) ∧
    (flagged ((countLineError ⟨.one, 1⟩ (opening 4 both)).handed .one silent (r.run [] []).stages)).opensNext .one
      (some (junction .one 1)) second ∧
    (flagged ((countLineError ⟨.one, 1⟩ (opening 4 [junction .one 1])).handed .one silent (r.run [] []).stages)).opensNone .one
      (some (junction .one 1)) ∧
    (flagged ((closingOf r (opening 4 both)).closed .one closingStopStages)).opensNext .one (some (junction .one 1)) second ∧
    (flagged ((closingOf r (opening 4 [junction .one 1])).closed .one givenUpStages)).opensNone .one (some (junction .one 1)) := by
  refine ⟨fun es h => ⟨tableInv_of_checks ?_, ?_⟩, fun es h k hk => ⟨tableInv_of_checks ?_, ?_⟩, ?_, opensNone_of (by decide),
    ?_, ?_, ?_, ?_, ?_, ?_⟩
  · revert es; decide
  · revert es; decide
  · revert es k; decide
  · refine ⟨?_, ?_, ?_, ?_, ?_, ?_, ?_, ?_, ?_, ?_, tableInv_of_checks ?_, ?_⟩ <;> revert es k <;> decide
  all_goals
    first
    | unfold State.opensNext Entry.opened Entry.opensBefore
      decide
    | unfold State.opensNone Entry.opened Entry.opensBefore
      decide

/-! ### Roll call and device memory reads -/

/-- The sweep's period on an idle engine and on one that a read keeps busy; with its budget spent the first PROBE, or none; a
period in SWEEPING and in PROBING, the unit's call in flight. -/
theorem witness_RollCallPeriodExpires :
    (let s := on .one (ready .waiting)
     (s.col .one).roll.period.isRunning = true ∧ (s.col .one).roll.phase = .waiting ∧ s.settings.sweep = true ∧
      (s.col .one).roll.used < s.settings.sweepBudget ∧ ¬(s.col .one).engine.phase ≠ .idle ∧
      (s.col .one).arbiter.transfer = none) ∧
    ((reading.col .two).roll.period.isRunning = true ∧ (reading.col .two).roll.phase = .waiting ∧
      (reading.col .two).engine.phase ≠ .idle) ∧
    (let s := { steady with settings := { steady.settings with sweepBudget := 0 } }
     TableInv s ∧ (s.col .one).roll.period.isRunning = true ∧ (s.col .one).roll.phase = .waiting ∧
      ¬(s.settings.sweep = true ∧ (s.col .one).roll.used < s.settings.sweepBudget) ∧ (s.col .one).roll.position = none ∧
      gripper .one 3 .present ∈ s.table.ofLane .one ∧ (gripper .one 3 .present).state ≠ .away ∧
      (∀ x ∈ s.table.ofLane .one, x.state ≠ .away → 3 ≤ x.key.handle) ∧ (s.col .one).arbiter.transfer = none) ∧
    (let s := { on .one (ready .waiting) with settings := { Settings.defaults with sweep := false } }
     (s.col .one).roll.period.isRunning = true ∧ (s.col .one).roll.phase = .waiting ∧
      ¬(s.settings.sweep = true ∧ (s.col .one).roll.used < s.settings.sweepBudget) ∧
      (∀ e ∈ s.table.ofLane .one, e.state = .away) ∧ (s.col .one).arbiter.procedure = none ∧
      (s.col .one).arbiter.transfer = none) ∧
    ∀ c ∈ [calling .sweeping none enrolRequest, calling .probing (some 3) (probeRequest 3)],
      c.roll.period.isRunning = true ∧ (c.roll.phase = .sweeping ∨ c.roll.phase = .probing) ∧ c.engine.phase ≠ .idle := by
  refine ⟨by decide, by decide, ⟨tableInv_of_checks (by decide), by decide⟩, by decide, by decide⟩

/-- Lane 1 in SWEEPING, its ENROL in flight, with a transfer request waiting and a slot. -/
def sweeping (transfer : Option LineRequest) (slot : TransferSlot) (es : List Entry) : State :=
  tabled (on .one { calling .sweeping none enrolRequest with arbiter := { granted with transfer }, slot }) es

/-- What every clause on a sweep's end asks of the state. -/
abbrev sweeps (s : State) : Prop :=
  (s.col .one).engine.inFlight = some (attempt .procedure enrolRequest 1) ∧ (s.col .one).walk.phase = .idle ∧
    (s.col .one).roll.phase = .sweeping ∧ (s.col .one).arbiter.procedure = none

/-- An answer with no read and with one whose chunk waits; no answer with an entry bound, a chunk waiting or not, and with
none bound; the same at the end of a closing; with none bound and a period deferred, a sweep to be made, none set, and none left
of its budget of 3. -/
theorem witness_SweepIsJudged :
    (recordG.length = 8 ∧ [false].headD false = false) ∧
    (∀ x ∈ [(none, TransferSlot.free, [gripper .one 3 .present]), (some (peekRequest 3 32 2), .busy half, [gripper .one 3 .lost]),
        (none, .free, [])],
      let s := sweeping x.1 x.2.1 x.2.2
      let z := s.withColumn .one { s.col .one with engine := stalled .procedure enrolRequest 1 }
      TableInv s ∧ sweeps s ∧ (s.col .one).engine.phase.attempting = true ∧ (s.col .one).slot = x.2.1 ∧
        (s.col .one).arbiter.transfer = x.1 ∧ (s.col .one).arbiter.lastGrant ≠ .transfer ∧ (s.col .one).roll.deferred = false ∧
        s.table.ofLane .one = x.2.2 ∧ (∀ e ∈ x.2.2, e.state ≠ .away ∧ e.key.handle = 3) ∧ TableInv z ∧ sweeps z ∧
        (z.col .one).engine.phase = .closing ∧ (z.col .one).engine.lastFailed = some (.stall, none)) ∧
    (∀ x ∈ [(true, 0), (true, 3), (false, 0)], ∀ closing ∈ [false, true],
      let c := calling .sweeping none enrolRequest
      let s := { on .one { c with
          roll := { c.roll with deferred := true, used := x.2 }
          engine := if closing then stalled .procedure enrolRequest 1 else c.engine } with
        settings := { Settings.defaults with sweep := x.1, sweepBudget := 3 } }
      TableInv s ∧ sweeps s ∧
        (if closing then (s.col .one).engine.phase = .closing ∧ (s.col .one).engine.lastFailed = some (.stall, none)
         else (s.col .one).engine.phase.attempting = true) ∧
        (∀ y ∈ s.table.ofLane .one, y.state = .away) ∧ (s.col .one).arbiter.transfer = none ∧ (s.col .one).roll.deferred = true ∧
        (x = (true, 0) → s.settings.sweep = true ∧ (s.col .one).roll.used < s.settings.sweepBudget) ∧
        (x ≠ (true, 0) → s.settings.sweep = false ∨ s.settings.sweepBudget ≤ (s.col .one).roll.used)) ∧
    endsClosing (.closingStop .one) .one closingStopStages ∧ endsClosing (.closingGivenUp .one) .one givenUpStages := by
  refine ⟨by decide, fun x h => ⟨tableInv_of_checks ?_, ?_, ?_, ?_, ?_, ?_, ?_, ?_, ?_, tableInv_of_checks ?_, ?_⟩,
    fun x h b hb => ⟨tableInv_of_checks ?_, ?_⟩, .inl ⟨rfl, rfl⟩, .inr ⟨rfl, rfl⟩⟩
  iterate 11 (revert x; decide)
  iterate 2 (revert x b; decide)

/-- Lane 1 in PROBING at an attempt of the PROBE of handle 3, with a period deferred or not, a transfer request waiting or
not. -/
def probing (k : Nat) (deferred : Bool) (transfer : Option LineRequest) (es : List Entry) : State :=
  tabled
    (on .one { calling .probing (some 3) (probeRequest 3) with
      roll := { (calling .probing (some 3) (probeRequest 3)).roll with deferred }
      engine := { trying .procedure (probeRequest 3) with inFlight := some (attempt .procedure (probeRequest 3) k) }
      arbiter := { granted with transfer } }) es

/-- A LOST and a PRESENT entry, the last of its lane with and without a period deferred, or with one of handle 30 after it, a
chunk waiting or not; an answer, and a failure with the attempts spent: unanswered, with a bad check, at its closing's end. -/
theorem witness_ProbeIsJudged :
    (∀ e ∈ [gripper .one 3 .lost, { gripper .one 3 .present with miss := 2 }], ∀ k ∈ [1, 4],
      ∀ x ∈ [([] : List Entry), [{ gripper .one 30 .present with identity := 7 }]], ∀ deferred ∈ [false, true],
      ∀ q ∈ [none, some (peekRequest 3 32 2)],
        let s := probing k deferred q (e :: x)
        let z := closingOf (probeRequest 3) s
        TableInv s ∧ (s.col .one).engine.phase.attempting = true ∧
          (s.col .one).engine.inFlight = some (attempt .procedure (probeRequest 3) k) ∧ (s.col .one).walk.phase = .idle ∧
          (s.col .one).roll.phase = .probing ∧ (s.col .one).roll.position = some 3 ∧ s.table.find ⟨.one, 3⟩ = some e ∧
          e.state ≠ .away ∧ (s.col .one).arbiter.procedure = none ∧ (s.col .one).arbiter.transfer = q ∧
          (s.col .one).arbiter.lastGrant ≠ .transfer ∧ (s.col .one).roll.deferred = deferred ∧ s.table.ofLane .one = e :: x ∧
          s.settings.sweep = true ∧ (s.col .one).roll.used < s.settings.sweepBudget ∧ (k = 4 → 3 < k) ∧
          closes z (probeRequest 3) ∧ z.table = s.table ∧ z.settings = s.settings ∧ (z.col .one).roll = (s.col .one).roll ∧
          (z.col .one).arbiter = (s.col .one).arbiter ∧ (z.col .one).walk.phase = .idle) ∧
    (let e := gripper .one 3 .lost
     (∀ z ∈ [e], z.state = .away ∨ z.key.handle ≤ 3) ∧
      ∀ z ∈ [e, { gripper .one 30 .present with identity := 7 }], z.state = .away ∨ z.key.handle ≤ 3 ∨ 30 ≤ z.key.handle) ∧
    ([(0x41 : Byte), 0x00] = [0x41, 0x00] ∧ (0x00 : Byte) ≠ crc8 [0x41]) ∧
    endsClosing (.closingStop .one) .one closingStopStages ∧ endsClosing (.closingGivenUp .one) .one givenUpStages := by
  refine ⟨fun e he k hk x hx d hd q hq => ⟨tableInv_of_checks ?_, ?_⟩, by decide, by decide, .inl ⟨rfl, rfl⟩, .inr ⟨rfl, rfl⟩⟩ <;>
    revert e k x d q <;> decide +kernel

/-- A state like `reading` with this read, its chunk of 2 bytes under way. -/
def readingOf (r : Read) (arbiter : LineArbiter) (halted : Bool) : State :=
  { reading with
    columns := reading.columns.set .two { reading.col .two with
      ctl := { (reading.col .two).ctl with rewalkWaiting := halted }
      slot := .busy r, arbiter
      engine := { (reading.col .two).engine with
        inFlight := some (attempt .transfer (peekRequest r.handle (r.offset + r.bytes.length) 2) 1) } } }

/-- A read of 19 bytes of which 18 come, roll call's PROBE waiting or not; one of 18 bytes, a re-walk waiting or not; its chunk's
last attempt under way, and disturbed, and what each failed attempt of it brings. -/
theorem witness_ReadChunksAreTaken :
    (∀ x ∈ [(19, LineArbiter.reset), (19, ⟨some (probeRequest 3), none, .transfer⟩), (18, ⟨none, none, .transfer⟩)],
      ∀ halted ∈ [false, true],
        let r := { half with count := x.1 }
        let s := readingOf r x.2 halted
        let p := peekRequest r.handle (r.offset + r.bytes.length) [(0x22 : Byte), 0x23].length
        let last := s.withColumn .two
          { s.col .two with engine := { (s.col .two).engine with inFlight := some (attempt .transfer p 4) } }
        let z := s.withColumn .two { s.col .two with engine := stalled .transfer p 4 }
        (s.col .two).engine.phase.attempting = true ∧ (s.col .two).engine.inFlight = some (attempt .transfer p 1) ∧
          (∀ y ∈ [s, last, z], (y.col .two).slot = .busy r ∧ y.port.owed.get .two = some 0x40 ∧
            (y.col .two).arbiter.transfer = none ∧ (y.col .two).arbiter = x.2 ∧ (y.col .two).ctl.rewalkWaiting = halted) ∧
          r.bytes.length = 16 ∧ (last.col .two).engine.phase.attempting = true ∧
          (last.col .two).engine.inFlight = some (attempt .transfer p 4) ∧ (z.col .two).engine.phase = .closing ∧
          (z.col .two).engine.inFlight = some (attempt .transfer p 4) ∧ 3 < 4) ∧
      1 ≤ [(0x22 : Byte), 0x23].length ∧ [(0x22 : Byte), 0x23].length ≤ 16 ∧ 16 + 2 < 19 ∧ 18 = 16 + 2 ∧
      [].headD false = false ∧ [(0x22 : Byte), 0x23, 0x00].length = [(0x22 : Byte), 0x23].length + 1 ∧
      crc8 [(0x22 : Byte), 0x23, 0x00].dropLast ≠ [(0x22 : Byte), 0x23, 0x00].getLastD 0 ∧
      endsClosing (.closingStop .two) .two closingStopStages ∧ endsClosing (.closingGivenUp .two) .two givenUpStages :=
  ⟨by decide, by decide, by decide, by decide, by decide, rfl, rfl, by decide, .inl ⟨rfl, rfl⟩, .inr ⟨rfl, rfl⟩⟩

/-! ### Host link -/

theorem witness_ChipSelectFallFillsBuffer :
    (lowered.port.resetLow = true ∧ { lowered.port with window := .closed }.window = .closed) ∧
      ∀ p ∈ [replied.port, { replied.port with buffer := none }, State.reset.port, { State.reset.port with notices := [] }],
        p.window = .closed ∧ p.resetLow = false ∧
          (p.buffer.isSome = true ∨ p.buffer = none ∧ (p.replies ≠ [] ∨ p.replies = [] ∧ (p.notices ≠ [] ∨ p.notices = []))) := by
  decide

/-- A frame cut short by one byte and one whole; an empty buffer, a reply, a notice; a host frame of none, of two bytes, of a
payload cut short. -/
theorem witness_ChipSelectRiseDelivers :
    { State.reset.port with window := .ignored }.window = .ignored ∧ (List.replicate 7 true).length < 8 ∧
      (∀ b ∈ [none, some (.reply { tag := 7, code := 1, status := .ok, payload := [] }),
          some (HeldFrame.notice (.restarted .powerOn))],
        (window b 3).port.window = .clocking [0, 0, 0] { short := true, full := false } ∧ (window b 3).port.buffer = b) ∧
      ([0, 0].length < [0, 0, 0].length ∧ [0, 0, 0].length ≤ [0, 0, 0].length) ∧
      [(0 : Byte)].headD 0 = 0 ∧ [(1 : Byte), 7].headD 0 ≠ 0 ∧ [(1 : Byte), 7].length < 3 ∧
      [(1 : Byte), 7, 1].length < 3 + ([(1 : Byte), 7, 1].getD 2 0).toNat := by decide

/-- RETN high with a frame clocked, low, and each window; a delivery of the one frame that waits; each point job and none. -/
theorem witness_PinsFollowState :
    (let r : Reply := { tag := 7, code := 1, status := .ok, payload := [] }
     let p : Port := { replied.port with
       notices := [], window := .clocking (partFrame (.reply r) ⟨false, false⟩) ⟨false, false⟩ }
     p.resetLow = false ∧ p.window = .clocking (partFrame (.reply r) ⟨false, false⟩) ⟨false, false⟩ ∧ p.buffer = some (.reply r) ∧
      p.replies = [r] ∧ p.notices = [] ∧ (partFrame (.reply r) ⟨false, false⟩).length ≤ (List.replicate 6 (0 : Byte)).length ∧
      (List.replicate 6 (0 : Byte)).headD 0 = 0 ∧ 4 < (partFrame (.reply r) ⟨false, false⟩).length ∧
      8 * (partFrame (.reply r) ⟨false, false⟩).length ≤ 48) ∧
    lowered.port.resetLow = true ∧ State.reset.port.window = .closed ∧
    (∀ p ∈ [Point.p1, .p2], (converting State.reset .one (.point p) true).converter.job =
      some { lane := .one, kind := .point p, live := true }) ∧
    ∀ p live, State.reset.converter.job ≠ some { lane := .one, kind := .point p, live } :=
  ⟨by decide, by decide, rfl, by decide, fun p live h => by cases h⟩

theorem witness_FramesAreDiscardedOrMalformed :
    (let s := { State.reset with
       port := { Port.reset with
         replies := List.replicate 7 { tag := 7, code := 1, status := .ok, payload := [] }
         owed := ⟨some 1, none, none, none⟩ } }
     (frameOf (.restart 1)).isSome = true ∧ lowered.port.resetLow = true ∧ s.port.resetLow = false ∧
      8 ≤ s.port.replies.length + s.port.owedCount) ∧
    State.reset.port.takes ∧ (60 : Byte).toNat ≤ (List.replicate 60 (0 : Byte)).length ∧ 14 < (15 : Byte).toNat ∧
    (∀ x ∈ [(1, 1), (14, 1), (4, 0), (10, 2), (3, 1), (11, 3), (6, 3), (8, 10), (9, 23), (2, 0), (2, 63), (2, 59)],
      1 ≤ x.1 ∧
        ((x.1 ∈ [1, 12, 13, 14] ∧ x.2 ≠ 0) ∨ (x.1 ∈ [4, 10] ∧ x.2 ≠ 1) ∨ (x.1 ∈ [3, 5, 7, 11] ∧ x.2 ≠ 2) ∨
          (x.1 = 6 ∧ x.2 ≠ 4) ∨ (x.1 = 8 ∧ x.2 ≠ 11) ∨ (x.1 = 9 ∧ x.2 ≠ 22) ∨
          (x.1 = 2 ∧ (x.2 = 0 ∨ 60 < x.2 ∨ x.2 % 3 ≠ 0)))) := by decide

theorem witness_ReadingRequestsOnlyReply :
    State.reset.port.takes ∧ 4 < (5 : Byte).toNat ∧ 30 < (31 : Byte).toNat ∧ 8 < (9 : Byte).toNat ∧ 64 < (65 : Byte).toNat ∧
      (4 : Byte).toNat = Lane.four.number ∧ 1 ≤ (1 : Byte).toNat ∧ (30 : Byte).toNat ≤ 30 ∧
      (loaded.port.takes ∧ loaded.catalogue.tool 2 = none ∧ loaded.catalogue.tool 1 = some tool) := by decide

/-- No pair, 21 pairs, an unknown id; 20 pairs of ids in force later only; loss count alone, lowered from 3 to 1; a list and
its first pair. -/
theorem witness_ConfigureTakesValue :
    State.reset.port.takes ∧ 20 < (List.replicate 21 (⟨1, 1⟩ : SettingPair)).length ∧
      (∃ p ∈ [(⟨1, 1⟩ : SettingPair), ⟨0x40, 1⟩], p.id.toNat ∉ settingIds) ∧
      ((List.replicate 20 (⟨0x34, 199⟩ : SettingPair)) ≠ [] ∧ (List.replicate 20 (⟨0x34, 199⟩ : SettingPair)).length ≤ 20 ∧
        ∀ p ∈ List.replicate 20 (⟨0x34, 199⟩ : SettingPair),
          p.id.toNat ∈ settingIds ∧ p.id ≠ 0x07 ∧ p.id.toNat ∉ [0x21, 0x22, 0x23, 0x24]) ∧
      (⟨0x07, 0⟩ : SettingPair).id = 0x07 ∧
      (let s := State.reset
       let p : SettingPair := ⟨0x02, 65535⟩
       let u := { s with settings := { s.settings with remateHold := 5000 } }
       let v := { s with settings := { s.settings with remateHold := 5000, lossCount := 7 } }
       [(⟨0x07, 9⟩ : SettingPair)] ≠ [] ∧ [(⟨0x07, 9⟩ : SettingPair)].length < 20 ∧ u.port.takes ∧
        exec (.configure 9 [p]) s =
          .next (placeReply { tag := 9, code := 0x02, status := .ok, payload := [0x02, 0x13, 0x88] } u) ∧
        exec (.configure 9 [⟨0x07, 9⟩]) u =
          .next (placeReply { tag := 9, code := 0x02, status := .ok, payload := [0x07, 0, 7] } v)) :=
  ⟨by decide, by decide, by decide, by decide, rfl, by decide, by decide, by decide, rfl, rfl⟩

theorem witness_LaneEnableIsWritten :
    (State.reset.port.takes ∧ State.reset.laneState .one ≠ .off ∧ (State.reset.laneState .one).powered = false) ∧
      (steady.port.takes ∧ steady.laneState .one ≠ .off ∧ (steady.laneState .one).powered = true) ∧
      ((1 : BitVec 16) ≠ 0 ∧ (0x8000 : BitVec 16) ≠ 0) ∧
      ∀ r ∈ [Reading.opened, .mated],
        (on .one (at' .off r)).port.takes ∧ (on .one (at' .off r)).laneState .one = .off ∧
          ((on .one (at' .off r)).col .one).ctl.reading = r := by decide

theorem witness_DeviceReadIsChecked :
    (steady.port.takes ∧ 4 < (5 : Byte).toNat ∧ 30 < (31 : Byte).toNat ∧ (1 : Byte).toNat = Lane.one.number ∧
      State.reset.laneState .one ≠ .ready) ∧
      (steady.laneState .one = .ready ∧ (steady.col .one).ctl.rewalkWaiting = false ∧
        (∀ e ∈ steady.table.ofLane .one, e.key.handle = 30 → e.state = .away) ∧
        (∃ e ∈ steady.table.ofLane .one, e.key.handle = 3 ∧ e.state ≠ .away) ∧ (steady.col .one).slot = .free ∧
        (steady.col .one).engine.phase = .idle ∧ (steady.col .one).arbiter.procedure = none) ∧
      (let s := holding reading (gripper .two 3 .present)
       s.port.takes ∧ s.laneState .two = .ready ∧ (s.col .two).ctl.rewalkWaiting = false ∧
        (∃ e ∈ s.table.ofLane .two, e.key.handle = 3 ∧ e.state ≠ .away) ∧ (s.col .two).slot ≠ .free) := by decide

theorem witness_DeviceClearResetsErrors :
    steady.port.takes ∧ 4 < (5 : Byte).toNat ∧ 30 < (31 : Byte).toNat ∧ (1 : Byte).toNat = Lane.one.number ∧
      steady.table.find ⟨.one, 30⟩ = none ∧ steady.table.find ⟨.one, 3⟩ = some (gripper .one 3 .present) := by decide

/-! ### Tool catalogue and naming -/

/-- Tools 1 to 8, without slots. -/
def eightTools : State :=
  { State.reset with
    catalogue :=
      { tools := (List.range 8).map fun i =>
          { number := i + 1, key := BitVec.ofNat 48 i, expects := PerLane.fill .any, slots := [] } } }

theorem witness_ToolsAreDefinedAndDropped :
    (loaded.port.takes ∧ expectationsField ⟨6, 0, 0, 0⟩ = none ∧ 8 < (9 : Byte).toNat ∧
      expectationsField ⟨5, 0, 0, 0⟩ = some ⟨.ofClass .d, .any, .any, .any⟩) ∧
      (eightTools.port.takes ∧ ∀ i < 8, (eightTools.catalogue.tool (i + 1)).isSome = true) ∧
      (loaded.catalogue.tool 2 = none ∧ (∀ i < 2, 1 ≤ i → (loaded.catalogue.tool i).isSome = true) ∧ (8 : Byte).toNat = 8 ∧
        loaded.catalogue.keyHolder 8 0x000950000001 = some tool ∧ ∀ t ∈ loaded.catalogue.tools, t.number ≠ 8 → t.key ≠ 5) ∧
      CatalogueInv loaded.catalogue ∧ CatalogueInv State.reset.catalogue ∧
      (loaded.catalogue.tool 8 = none ∧ loaded.catalogue.tool 1 = some tool ∧ loaded.catalogue.tools ≠ [] ∧
        State.reset.catalogue.tools = []) :=
  ⟨by decide, by decide, by decide, catalogueInv_of_checks (by decide), catalogueInv_of_checks (by decide), by decide⟩

/-- A slot of lane 1 and class 01h, at the root or under a parent. -/
def slotUnder (name : Byte) (parent : Nat) (leg : Option Leg) (filling : Filling) (depth : Nat) : Slot :=
  { name := [name], lane := .one, cls := 1, parent, leg, required := true, filling, depth }

/-- A tool of three slots one under another, the second pinned, and these after them. -/
def deep (more : List Slot) : Tool :=
  { number := 1, key := 0x12, expects := ⟨.any, .any, .any, .nothing⟩
    slots :=
      [slotUnder 0x41 0 none (.ordinal 1) 0, slotUnder 0x42 1 (some .a) (.pin 5) 1, slotUnder 0x43 2 (some .b) (.ordinal 1) 2]
        ++ more }

/-- A state whose catalogue holds that tool. -/
def deepened (more : List Slot) : State := { State.reset with catalogue := { tools := [deep more] } }

/-- The slot fields of a request for a slot of class 01h. -/
def slotFields (name lane parent leg : Byte) (pin : Option Identity) (ordinal : Byte) : SlotBytes :=
  { name := name :: List.replicate 7 0, lane, cls := 1, parent, leg, required := 1
    pinFlag := if pin.isSome then 1 else 0, pin := pin.getD 0, ordinal }

/-- A bad field, a bad number, an undefined one, a full pool; each cause of a conflict, the first that holds; a slot at the
root and one under a parent. -/
theorem witness_CatSlotAppends :
    ((deepened []).port.takes ∧ (slotFields 0x44 1 0 0 none 1).name.length = 8 ∧ slotField (slotFields 0x44 5 0 0 none 1) = none ∧
      8 < (9 : Byte).toNat ∧ (deepened []).catalogue.tool 8 = none ∧ (deepened []).catalogue.tool 1 = some (deep []) ∧
      ((deepened []).catalogue.tools.map fun t => t.slots.length).sum < 64 ∧
      64 ≤ ((deepened (List.replicate 61 tool.slots[0])).catalogue.tools.map fun t => t.slots.length).sum) ∧
    ((slotField (slotFields 0x44 4 0 0 none 1)).map Slot.lane = some .four ∧ (deep []).expects.get .four = .nothing ∧
      (deep []).expects.get .one ≠ .nothing) ∧
    slotField (slotFields 0x44 1 9 1 none 1) = some (slotUnder 0x44 9 (some .a) (.ordinal 1) 0) ∧ (deep []).slots[9 - 1]? = none ∧
    slotField (slotFields 0x44 1 3 1 none 1) = some (slotUnder 0x44 3 (some .a) (.ordinal 1) 0) ∧
    (deep []).slots[3 - 1]? = some (slotUnder 0x43 2 (some .b) (.ordinal 1) 2) ∧
    slotField (slotFields 0x44 1 0 1 none 2) = some (slotUnder 0x44 0 (some .a) (.ordinal 2) 0) ∧
    slotField (slotFields 0x44 1 1 0 none 2) = some (slotUnder 0x44 1 none (.ordinal 2) 0) ∧
    (deep []).slots[1 - 1]? = some (slotUnder 0x41 0 none (.ordinal 1) 0) ∧
    slotField (slotFields 0x42 1 0 0 none 2) = some (slotUnder 0x42 0 none (.ordinal 2) 0) ∧
    ((deep []).slots[1]?).map Slot.name = some [0x42] ∧ ((deep []).slots[0]?).map Slot.name ≠ some [0x42] ∧
    slotField (slotFields 0x44 1 2 2 none 1) = some (slotUnder 0x44 2 (some .b) (.ordinal 1) 0) ∧
    slotField (slotFields 0x44 1 1 2 (some 5) 0) = some (slotUnder 0x44 1 (some .b) (.pin 5) 0) ∧
    (∀ z ∈ (deep []).slots, z.name ≠ [0x44]) ∧
    slotField (slotFields 0x44 1 2 1 none 8) = some (slotUnder 0x44 2 (some .a) (.ordinal 8) 0) ∧
    (deep []).slots[2 - 1]? = some (slotUnder 0x42 1 (some .a) (.pin 5) 1) := by decide

/-- A READY lane of class B with junction J at the root and two grippers beneath it, and a tool of J's identity whose three
slots they fill but for a third gripper's. -/
def docked (required : Bool) (x : LaneState) (key : Identity) (expects : Expectation) : State :=
  { tabled (on .one { ready .waiting with ctl := { (ready .waiting).ctl with state := x } })
      [junction .one 1, { gripper .one 2 .present with identity := 0x20, depth := 1, parent := 1, leg := some .a },
        { gripper .one 3 .lost with identity := 0x21, depth := 1, parent := 1, leg := some .a }] with
    catalogue :=
      { tools :=
          [{ number := 1, key := 0x12, expects := ⟨expects, .any, .any, .any⟩
             slots :=
               [slotUnder 0x41 0 none (.ordinal 1) 0,
                 { slotUnder 0x42 1 (some .a) (.pin 0x21) 1 with cls := 0x20 },
                 { slotUnder 0x43 1 (some .a) (.ordinal 1) 1 with cls := 0x20 },
                 { slotUnder 0x44 1 (some .a) (.ordinal 2) 1 with cls := 0x20, required }] },
            { number := 2, key, expects := PerLane.fill .any, slots := [] }] } }

/-- Such a lane whose one tool has a key, expects NONE of every lane and has no slots. -/
def barred (key : Identity) : State :=
  { docked true .ready 0x99 .any with
    catalogue := { tools := [{ number := 1, key, expects := PerLane.fill .nothing, slots := [] }] } }

/-- No lane in READY; two keys found; one found with the class check passed, its last slot required and not. -/
theorem witness_NamingPassSelectsTool :
    (TableInv (docked true .powering 0x99 .any) ∧ CatalogueInv (docked true .powering 0x99 .any).catalogue ∧
      ∀ n ∈ Lane.all, (docked true .powering 0x99 .any).laneState n ≠ .ready) ∧
    (TableInv (docked true .ready 0x20 .any) ∧ CatalogueInv (docked true .ready 0x20 .any).catalogue ∧
      (docked true .ready 0x20 .any).namingView.map Entry.identity = [0x12, 0x20, 0x21] ∧
      (docked true .ready 0x20 .any).catalogue.tools.map Tool.key = [0x12, 0x20]) ∧
    (TableInv (docked true .ready 0x99 (.ofClass .b)) ∧ CatalogueInv (docked true .ready 0x99 (.ofClass .b)).catalogue ∧
      (docked true .ready 0x99 (.ofClass .b)).decision.outcome = .incomplete) ∧
    (TableInv (docked false .ready 0x99 .any) ∧ CatalogueInv (docked false .ready 0x99 .any).catalogue ∧
      (docked false .ready 0x99 .any).decision.outcome = .named) :=
  ⟨⟨tableInv_of_checks (by decide), catalogueInv_of_checks (by decide), by decide⟩,
    ⟨tableInv_of_checks (by decide), catalogueInv_of_checks (by decide), by decide⟩,
    ⟨tableInv_of_checks (by decide), catalogueInv_of_checks (by decide), by decide⟩,
    tableInv_of_checks (by decide), catalogueInv_of_checks (by decide), by decide⟩

/-- One key found and the class check failed, by a class and by an expectation of NONE; no key found. -/
theorem witness_NamingPassSelectsTool_failed :
    (TableInv (docked true .ready 0x99 (.ofClass .c)) ∧ CatalogueInv (docked true .ready 0x99 (.ofClass .c)).catalogue ∧
      ((docked true .ready 0x99 (.ofClass .c)).col .one).ctl.record.cls ≠ some .c ∧
      (docked true .ready 0x99 (.ofClass .c)).decision.outcome = .mismatch) ∧
    (TableInv (barred 0x12) ∧ CatalogueInv (barred 0x12).catalogue ∧ (barred 0x12).decision.outcome = .mismatch) ∧
    (TableInv (barred 0x98) ∧ CatalogueInv (barred 0x98).catalogue ∧ (barred 0x98).laneState .one = .ready ∧
      ∀ e ∈ (barred 0x98).table.entries, e.identity ≠ 0x98) :=
  ⟨⟨tableInv_of_checks (by decide), catalogueInv_of_checks (by decide), by decide⟩,
    ⟨tableInv_of_checks (by decide), catalogueInv_of_checks (by decide), by decide⟩,
    tableInv_of_checks (by decide), catalogueInv_of_checks (by decide), by decide⟩

/-- The pinned slot takes its gripper, and the other is the first of the pool. -/
theorem witness_NamingPassFillsSlots :
    let s := docked true .ready 0x99 .any
    TableInv s ∧ CatalogueInv s.catalogue ∧
      (∀ t ∈ s.catalogue.tools.head?, t ∈ s.catalogue.tools ∧
        matchSlots t s.namingView = [⟨1, ⟨.one, 1⟩, false⟩, ⟨2, ⟨.one, 3⟩, true⟩, ⟨3, ⟨.one, 2⟩, false⟩] ∧
        unmatchedRequired t (matchSlots t s.namingView) = [4]) :=
  ⟨tableInv_of_checks (by decide), catalogueInv_of_checks (by decide), by decide⟩

theorem witness_NameNowRunsPass :
    (on .one (at' .settling .mated)).port.takes ∧ (on .one (at' .settling .mated)).anyBringingUp = true ∧
      steady.port.takes ∧ steady.anyBringingUp = false ∧
      { steady.naming.record with generation := 65535 }.generation ≤ 65535 := by decide

/-! ### Resets -/

theorem witness_HardwareResetSetsDefaults : lowered.port.resetLow = true ∧ steady.port.resetLow = false := by decide

theorem witness_RestartKeepsSettings : steady.port.takes := by decide

end Sys2Proof.Tests
end

section
/-!
SUPPORT. The arithmetic of the signature record (R24 to R28): a measurement's verdict test by test, an attempt's
verdict pair by pair, what a point writes, and how a series goes on.
-/

namespace Sys2Proof.Machine

/-! ## A measurement's verdict (R26) -/

theorem clipped_iff (v2 : Code) : v2.toNat = Config.clipped ↔ v2 = 4095 := by
  rw [BitVec.toNat_eq]
  rfl

/-- R26: the ends of a class's slope band, both in the band. -/
def SupplyClass.band : SupplyClass → Int × Int
  | .a => (184, 216)
  | .b => (368, 432)
  | .c => (736, 864)
  | .d => (1472, 1728)

theorem bandClass_eq_some_iff (s : Int) (x : SupplyClass) :
    bandClass s = some x ↔ x.band.1 ≤ s ∧ s ≤ x.band.2 := by
  cases x <;> simp only [bandClass, SupplyClass.band] <;> grind

theorem bandClass_eq_none_iff (s : Int) : bandClass s = none ↔ ∀ x : SupplyClass, ¬(x.band.1 ≤ s ∧ s ≤ x.band.2) := by
  simp only [Option.eq_none_iff_forall_ne_some, ne_eq, bandClass_eq_some_iff]

/-- Every band lies between the SHORT slopes and the OPEN ones. -/
theorem SupplyClass.band_between (x : SupplyClass) : 39 < x.band.1 ∧ x.band.2 < 2400 := by
  cases x <;> decide

section

variable {v2 : Code} {s : Int}

theorem measurementVerdict_opened (h : v2 = 4095 ∨ 2400 ≤ s) : measurementVerdict v2 s = .opened := by
  rw [← clipped_iff] at h
  exact if_pos h

/-- The tests after the first, on a code that is not clipped. -/
theorem measurementVerdict_unclipped (hv : v2 ≠ 4095) (hs : s < 2400) :
    measurementVerdict v2 s =
      if s < 0 then .noisy else if s ≤ 39 then .short else ((bandClass s).map .ofClass).getD .ambiguous := by
  have not_opened : ¬(v2.toNat = Config.clipped ∨ Config.openSlope ≤ s) := by
    rw [clipped_iff]
    exact not_or.mpr ⟨hv, Int.not_le.mpr hs⟩
  rw [measurementVerdict, if_neg not_opened]
  cases bandClass s <;> rfl

theorem measurementVerdict_noisy (hv : v2 ≠ 4095) (hs : s < 0) : measurementVerdict v2 s = .noisy := by
  rw [measurementVerdict_unclipped hv (by omega), if_pos hs]

theorem measurementVerdict_short (hv : v2 ≠ 4095) (h0 : 0 ≤ s) (hs : s ≤ 39) : measurementVerdict v2 s = .short := by
  rw [measurementVerdict_unclipped hv (by omega), if_neg (by omega), if_pos hs]

/-- The tests after SHORT: the band that holds the slope decides. -/
theorem measurementVerdict_bands (hv : v2 ≠ 4095) (h0 : 39 < s) (hs : s < 2400) :
    measurementVerdict v2 s = ((bandClass s).map .ofClass).getD .ambiguous := by
  rw [measurementVerdict_unclipped hv hs, if_neg (by omega), if_neg (by omega)]

theorem measurementVerdict_ofClass (x : SupplyClass) (hv : v2 ≠ 4095) (low : x.band.1 ≤ s) (high : s ≤ x.band.2) :
    measurementVerdict v2 s = .ofClass x := by
  obtain ⟨hlow, hhigh⟩ := x.band_between
  rw [measurementVerdict_bands hv (by omega) (by omega), (bandClass_eq_some_iff s x).mpr ⟨low, high⟩]
  rfl

theorem measurementVerdict_ambiguous (hv : v2 ≠ 4095) (h0 : 39 < s) (hs : s < 2400)
    (out : ∀ x : SupplyClass, ¬(x.band.1 ≤ s ∧ s ≤ x.band.2)) : measurementVerdict v2 s = .ambiguous := by
  rw [measurementVerdict_bands hv h0 hs, (bandClass_eq_none_iff s).mpr out]
  rfl

end

/-! ## An attempt's verdict (R27) -/

section

variable (x : SupplyClass) (s1 s2 : Int)

theorem judgeAttempt_valid (near : (s1 - s2).natAbs ≤ 16) :
    judgeAttempt (.ofClass x) (.ofClass x) s1 s2 = .valid := by
  simp [judgeAttempt, Config.spreadLimit, near]

theorem judgeAttempt_spread (far : 16 < (s1 - s2).natAbs) :
    judgeAttempt (.ofClass x) (.ofClass x) s1 s2 = .spread := by
  simp [judgeAttempt, Config.spreadLimit, Nat.not_le.mpr far]

theorem judgeAttempt_failed {v1 v2 : MeasurementVerdict} (short : ¬(v1 = .short ∧ v2 = .short))
    (classes : ∀ x, ¬(v1 = .ofClass x ∧ v2 = .ofClass x)) : judgeAttempt v1 v2 s1 s2 = .failed v2 := by
  unfold judgeAttempt
  split
  · rename_i x y
    have differ : x ≠ y := fun same => classes x ⟨rfl, congrArg _ same.symm⟩
    exact if_neg differ
  · exact absurd ⟨rfl, rfl⟩ short
  · rfl

end

/-! ## The points of an attempt (R24, R30) -/

/-- A point before an attempt's last writes codes, and a verdict of its measurement at most. -/
theorem writePoint_early {r : SignatureRecord} (code : Code) (early : r.m1.v1 = none ∨ r.m1.v2 = none ∨ r.m2.v1 = none) :
    (r.writePoint code).attemptVerdict = r.attemptVerdict := by
  unfold SignatureRecord.writePoint
  split
  · rfl
  · rfl
  · rfl
  · simp_all

section

variable {r : SignatureRecord} {a b c : Code} (code : Code) (follows : r.m1.follows)
  (h1 : r.m1.v1 = some a) (h2 : r.m1.v2 = some b) (h3 : r.m2.v1 = some c)

include follows h1 h2 in
/-- R25, R26: the slope and the verdict of a measurement whose two codes are written. -/
theorem follows_written :
    r.m1.slope = some (slopeCode a b) ∧ r.m1.verdict = some (measurementVerdict b (slopeCode a b)) := by
  simpa only [Measurement.follows, h1, h2] using follows

include h1 h2 h3

theorem writePoint_last :
    r.writePoint code =
      { r with m2 := r.m2.judge c code, attemptVerdict := { r with m2 := r.m2.judge c code }.judged } := by
  simp only [SignatureRecord.writePoint, h1, h2, h3]

include follows

theorem writePoint_last_verdict :
    (r.writePoint code).attemptVerdict =
      some (judgeAttempt (measurementVerdict b (slopeCode a b)) (measurementVerdict code (slopeCode c code))
        (slopeCode a b) (slopeCode c code)) := by
  obtain ⟨slope, verdict⟩ := follows_written follows h1 h2
  rw [writePoint_last code h1 h2 h3]
  simp only [SignatureRecord.judged, Measurement.judge, slope, verdict]

/-- R28, R30: what the end of a series VALID writes after the last point of an attempt. -/
theorem writePoint_last_endValid :
    let w := (r.writePoint code).endValid
    let slope := (slopeCode a b + slopeCode c code).fdiv 2
    w.cls = (measurementVerdict code (slopeCode c code)).cls ∧ w.slope = some slope ∧ w.resistance = some (slope * 25) := by
  obtain ⟨slope, -⟩ := follows_written follows h1 h2
  rw [writePoint_last code h1 h2 h3]
  simp only [SignatureRecord.endValid, Measurement.judge, slope]
  exact ⟨rfl, rfl, rfl⟩

end

/-! ## How a series goes on (R24, R28) -/

section

variable {n : Lane} {s : State}

/-- A further attempt begins at its first P1. -/
theorem beginAttempt_nextPoint (r : SignatureRecord) : r.beginAttempt.nextPoint = .p1 := rfl

/-- Before an attempt's last point, the point that the order puts next is placed, and nothing else happens. -/
theorem continueSeries_unjudged (h : (s.col n).ctl.record.attemptVerdict = none) :
    continueSeries n s = s.modConverter fun c => c.place (.point (s.col n).ctl.record.nextPoint) n := by
  simp only [continueSeries, h, placePoint]

/-- The verdicts after which a series goes on while it has attempts left. -/
theorem continueSeries_retried
    (h : (s.col n).ctl.record.attemptVerdict = some .spread ∨ ∃ v, (s.col n).ctl.record.attemptVerdict = some (.failed v))
    (left : (s.col n).ctl.record.attempts < 3) :
    continueSeries n s =
      (s.modCtl n fun c => { c with record := c.record.beginAttempt }).modConverter fun c => c.place (.point .p1) n := by
  obtain h | ⟨v, h⟩ := h
  all_goals
    simp only [continueSeries, h, Config.seriesAttempts, left, if_true, placePoint, State.modCtl_col, beginAttempt_nextPoint]

/-- R24: after the two points of the first measurement comes a P1. -/
theorem nextPoint_second_p1 {r : SignatureRecord} (h1 : r.m1.v1 ≠ none) (h2 : r.m1.v2 ≠ none) (h3 : r.m2.v1 = none) :
    r.nextPoint = .p1 := by
  obtain ⟨a, h1⟩ := Option.ne_none_iff_exists'.mp h1
  obtain ⟨b, h2⟩ := Option.ne_none_iff_exists'.mp h2
  simp only [SignatureRecord.nextPoint, h1, h2, h3]

end

/-! ## The statements -/

/-- Settles O19, test by test in R26's order. -/
theorem measurementVerdictFirstTest : Obligations.MeasurementVerdictFirstTest := by
  intro v2 slope
  refine ⟨measurementVerdict_opened, measurementVerdict_noisy, measurementVerdict_short, measurementVerdict_ofClass .a,
    measurementVerdict_ofClass .b, measurementVerdict_ofClass .c, measurementVerdict_ofClass .d, fun hv between => ?_⟩
  refine measurementVerdict_ambiguous hv (by omega) (by omega) fun x => ?_
  cases x <;> simp only [SupplyClass.band] <;> omega

/-- Settles O21: the last point's verdict by `judgeAttempt` on the two measurements, the earlier points by
`writePoint_early`, and what follows by the equations of `continueSeries`. -/
theorem attemptIsJudged : Obligations.AttemptIsJudged := by
  refine ⟨fun r a b c code follows h1 h2 h3 => ?_, fun r code => writePoint_early code, fun n s => ⟨?_, ?_⟩⟩
  · have verdict := writePoint_last_verdict code follows h1 h2 h3
    obtain ⟨cls, slope, resistance⟩ := writePoint_last_endValid code follows h1 h2 h3
    simp only [slopeCode] at verdict cls slope resistance
    refine ⟨fun x e1 e2 near => ?_, fun x e1 e2 far => ?_, fun e1 e2 => ?_, fun short classes => ?_⟩
    · rw [e2] at cls
      refine ⟨?_, cls, slope, resistance⟩
      rw [verdict, e1, e2, judgeAttempt_valid _ _ _ near]
    · rw [verdict, e1, e2, judgeAttempt_spread _ _ _ far]
    · rw [verdict, e1, e2]
      rfl
    · rw [verdict, judgeAttempt_failed _ _ short classes]
  · intro unjudged h1 h2 h3
    rw [continueSeries_unjudged unjudged, nextPoint_second_p1 h1 h2 h3]
    exact ⟨rfl, rfl⟩
  · intro failed left
    rw [continueSeries_retried failed left]
    refine ⟨rfl, ?_, ?_⟩
    · simp [State.laneState]
    · simp [SignatureRecord.beginAttempt]

end Sys2Proof.Machine
end

section
/-!
Facts about lists that core Lean does not have, and that the proofs use: lists without duplicates, sums, pairwise relations.
-/

namespace Sys2Proof.Machine

section

variable {α β : Type} {l : List α}

/-- What holds between every two entries of a list in order, and is symmetric, holds of any two that differ. -/
theorem related_of_pairwise {R : α → α → Prop} (symm : ∀ {a b}, R a b → R b a) (pairs : l.Pairwise R) {a b : α} (ha : a ∈ l)
    (hb : b ∈ l) (differ : a ≠ b) : R a b := by
  induction pairs with
  | nil => cases ha
  | cons head _ ih =>
    obtain rfl | later := List.mem_cons.mp ha
    · obtain rfl | last := List.mem_cons.mp hb
      · exact absurd rfl differ
      · exact head b last
    · obtain rfl | last := List.mem_cons.mp hb
      · exact symm (head a later)
      · exact ih later last

/-- Of a list with distinct images, members with one image are one. -/
theorem eq_of_distinct_images {f : α → β} (distinct : (l.map f).Nodup) {a b : α} (ha : a ∈ l) (hb : b ∈ l) (same : f a = f b) :
    a = b :=
  Classical.byContradiction fun differ =>
    related_of_pairwise (R := fun a b => f a ≠ f b) (fun apart => apart.symm) (List.pairwise_map.mp distinct) ha hb differ same

/-- Distinct images of one function stay apart under another that separates the members. -/
theorem distinct_images {γ : Type} {f : α → β} {g : α → γ} (distinct : (l.map f).Nodup)
    (apart : ∀ a ∈ l, ∀ b ∈ l, g a = g b → a = b) : (l.map g).Nodup :=
  List.pairwise_map.mpr ((List.pairwise_map.mp distinct).imp_of_mem fun ha hb differ same =>
    differ (congrArg f (apart _ ha _ hb same)))

/-- Two cuts of a list at one member, neither with that member ahead, have one front. -/
theorem ahead_unique {a : α} {x y z w : List α} (cuts : x ++ a :: y = z ++ a :: w) (hx : a ∉ x) (hz : a ∉ z) : x = z := by
  induction x generalizing z with
  | nil =>
    cases z with
    | nil => rfl
    | cons c z => exact absurd (List.cons.inj cuts).1 (List.ne_of_not_mem_cons hz)
  | cons b x ih =>
    cases z with
    | nil => exact absurd (List.cons.inj cuts).1.symm (List.ne_of_not_mem_cons hx)
    | cons c z =>
      obtain ⟨rfl, rest⟩ := List.cons.inj cuts
      rw [ih rest (List.not_mem_of_not_mem_cons hx) (List.not_mem_of_not_mem_cons hz)]

/-- Functions that agree on a list's members gather the same from it. -/
theorem gathers_same {f g : α → List β} (agree : ∀ a ∈ l, f a = g a) : l.flatMap f = l.flatMap g := by
  rw [List.flatMap_def, List.flatMap_def, List.map_congr_left agree]

/-- Induction on a list from its last member. -/
theorem snoc_induction {motive : List α → Prop} (nil : motive []) (snoc : ∀ l a, motive l → motive (l ++ [a]))
    (l : List α) : motive l := by
  have reversed (m : List α) : motive m.reverse := by
    induction m with
    | nil => exact nil
    | cons a m ih =>
      rw [List.reverse_cons]
      exact snoc _ a ih
  exact l.reverse_reverse ▸ reversed l.reverse

/-- A weaker test keeps no fewer members. -/
theorem filter_length_le {p q : α → Bool} (weaker : ∀ a ∈ l, p a = true → q a = true) :
    (l.filter p).length ≤ (l.filter q).length := by
  rw [← List.countP_eq_length_filter, ← List.countP_eq_length_filter]
  exact List.countP_mono_left weaker

/-- A sublist has no larger sum. -/
theorem sum_sublist {l m : List Nat} (h : l.Sublist m) : l.sum ≤ m.sum := by
  induction h with
  | slnil => exact Nat.le_refl _
  | cons a _ ih => exact Nat.le_trans ih (Nat.le_add_left _ a)
  | cons_cons a _ ih => exact Nat.add_le_add_left ih a

end

/-- The places of a byte with its acknowledge. -/
theorem lt_nine_cases {j : Nat} (h : j < 9) :
    j = 0 ∨ j = 1 ∨ j = 2 ∨ j = 3 ∨ j = 4 ∨ j = 5 ∨ j = 6 ∨ j = 7 ∨ j = 8 := by omega

/-- The places of a byte. -/
theorem lt_eight_cases {j : Nat} (h : j < 8) : j = 0 ∨ j = 1 ∨ j = 2 ∨ j = 3 ∨ j = 4 ∨ j = 5 ∨ j = 6 ∨ j = 7 := by omega

end Sys2Proof.Machine
end

section
/-!
The events of one lane: each is a chain of that lane's operations (`event_moves`), and every other command is a request,
a pin of the host link or a reset. The statements on the machine as a whole.
-/

namespace Sys2Proof.Machine

/-! ## Events are operations on their lane -/

section

variable (n : Lane) (s : State)

theorem attemptEnd_moves (acks : List Bool) (bytes : List Byte) {t : State} (h : execAttemptEnd n acks bytes s = .next t) :
    LaneMoves n s t := by
  simp only [execAttemptEnd, Host.Outcome.next.injEq] at h
  subst h
  split
  · exact stopAttempt_moves (handAttempt_moves .refl _ _) _ _
  · exact .refl

theorem stall_moves (slot : StallSlot) {t : State} (h : execStall n slot s = .next t) : LaneMoves n s t := by
  simp only [execStall, Host.Outcome.next.injEq] at h
  subst h
  split
  · split
    · exact breakAttempt_moves .refl _ _ _
    · exact .refl
  · exact .refl

theorem collision_moves (slot : CollisionSlot) {t : State} (h : execCollision n slot s = .next t) : LaneMoves n s t := by
  simp only [execCollision, Host.Outcome.next.injEq] at h
  subst h
  split
  · split
    · exact breakAttempt_moves .refl _ _ _
    · exact .refl
  · exact .refl

end

/-- A guarded operation on a lane is one. -/
theorem LaneMoves.guarded {n : Lane} {s t : State} {p : Prop} [Decidable p] (h : LaneMoves n s t) :
    LaneMoves n s (if p then t else s) := by
  split
  · exact h
  · exact .refl

/-- A completion works on the lane of the converter's job, and finds no other. -/
theorem pointJobCompletion_moves {s t : State} {code : Code} {contact : Contact} {n : Lane}
    (lane : s.converter.job.map Job.lane = some n) (h : execPointJobCompletion code contact s = .next t) :
    LaneMoves n s t := by
  simp only [execPointJobCompletion, Host.Outcome.next.injEq] at h
  subst h
  split
  · rename_i job
    simp only [job, Option.map_some, Option.some.injEq] at lane
    subst lane
    exact .modConverter (pointHandled_moves .refl _ _ _) _
  · exact .refl
  · exact .refl

theorem sampleJobCompletion_moves {s t : State} {current voltage : Code} {n : Lane}
    (lane : s.converter.job.map Job.lane = some n) (h : execSampleJobCompletion current voltage s = .next t) :
    LaneMoves n s t := by
  simp only [execSampleJobCompletion, Host.Outcome.next.injEq] at h
  subst h
  split
  · rename_i job
    simp only [job, Option.map_some, Option.some.injEq] at lane
    subst lane
    refine .modConverter ?_ _
    split
    · exact sampleResult_moves .refl _ _
    · exact .refl
  · exact .refl
  · exact .refl

/-- An event of one lane is a chain of that lane's operations. -/
theorem event_moves {c : Instr} {s t : State} {n : Lane} (lane : eventLane s c = some n) (h : exec c s = .next t) :
    LaneMoves n s t := by
  cases c
  case pointJobCompletion => exact pointJobCompletion_moves lane h
  case sampleJobCompletion => exact sampleJobCompletion_moves lane h
  case stall => cases lane; exact stall_moves _ _ _ h
  case collision => cases lane; exact collision_moves _ _ _ h
  case attemptEnd => cases lane; exact attemptEnd_moves _ _ _ _ h
  case mateEvent => cases lane; cases h; exact .guarded (mateAction_moves (setReading_moves .refl _))
  case openEvent => cases lane; cases h; exact .guarded (openAction_moves (setReading_moves .refl _))
  case tripEvent => cases lane; cases h; exact tripCheck_moves .refl _
  case settleTimerExpiry => cases lane; cases h; exact .guarded (settleExpired_moves (modCtl_moves .refl _))
  case grantWindowExpiry => cases lane; cases h; exact .guarded (modCtl_moves .refl _)
  case inrushWindowExpiry => cases lane; cases h; exact .guarded (tripCheck_moves (inrushExpired_moves .refl) _)
  case sampleDueInstant => cases lane; cases h; exact .guarded (.modConverter (modSupervisor_moves .refl _) _)
  case bootWaitExpiry => cases lane; cases h; exact .guarded (lineGrant_moves (enterWalking_moves (modCtl_moves .refl _) _))
  case remateHoldExpiry => cases lane; cases h; exact .guarded (removeAway_moves (modCtl_moves .refl _))
  case idleCheckPassed => cases lane; cases h; exact .guarded (modEngine_moves .refl _)
  case lineStuck => cases lane; cases h; exact .guarded (stuckLine_moves .refl)
  case closingStop => cases lane; cases h; exact .guarded (endClosing_moves (driveClosing_moves .refl _))
  case closingGivenUp => cases lane; cases h; exact .guarded (endClosing_moves (driveClosing_moves .refl _))
  case rollCallPeriodExpiry => cases lane; cases h; exact .guarded (lineGrant_moves (periodExpiry_moves .refl))
  all_goals cases lane

/-- A completion that finds no job in progress changes nothing, and every other event has a lane. -/
theorem completion_idle {c : Instr} {s t : State} (none : eventLane s c = none) (h : exec c s = .next t)
    (completion : (∃ code contact, c = .pointJobCompletion code contact) ∨ ∃ x y, c = .sampleJobCompletion x y) : t = s := by
  have free : s.converter.job = Option.none := by
    obtain ⟨_, _, rfl⟩ | ⟨_, _, rfl⟩ := completion <;> exact Option.map_eq_none_iff.mp none
  obtain ⟨_, _, rfl⟩ | ⟨_, _, rfl⟩ := completion
  · simp only [exec, execPointJobCompletion, free, Host.Outcome.next.injEq] at h
    exact h.symm
  · simp only [exec, execSampleJobCompletion, free, Host.Outcome.next.injEq] at h
    exact h.symm

/-! ## What a command is: an event, a pin of the host link, a reset, a request -/

/-- What the owning blocks do with an accepted request, the refusals of a frame that is none included (R171, R175). -/
inductive RequestHandler : (State → State) → Prop where
  | malformed (tag code : Byte) : RequestHandler (answerMalformed tag code)
  | noAction (tag : Byte) : RequestHandler (answer tag 0x03 .range [])
  | status (tag : Byte) : RequestHandler (takeStatus tag)
  | configure (tag : Byte) (pairs : List SettingPair) : RequestHandler (takeConfigure tag pairs)
  | grant (tag lane : Byte) : RequestHandler (takeGrant tag lane)
  | rewalk (tag lane : Byte) : RequestHandler (takeRewalk tag lane)
  | clear (tag lane : Byte) : RequestHandler (takeClear tag lane)
  | laneRead (tag lane : Byte) : RequestHandler (takeLaneRead tag lane)
  | roster (tag lane handle : Byte) : RequestHandler (takeRoster tag lane handle)
  | deviceRead (tag lane handle offset count : Byte) : RequestHandler (takeDeviceRead tag lane handle offset count)
  | deviceClear (tag lane handle : Byte) : RequestHandler (takeDeviceClear tag lane handle)
  | catTool (tag number : Byte) (key : Identity) (x : PerLane Byte) : RequestHandler (takeCatTool tag number key x)
  | catSlot (tag number : Byte) (slot : SlotBytes) : RequestHandler (takeCatSlot tag number slot)
  | catDrop (tag number : Byte) : RequestHandler (takeCatDrop tag number)
  | catRead (tag number start : Byte) : RequestHandler (takeCatRead tag number start)
  | nameNow (tag : Byte) : RequestHandler (takeNameNow tag)
  | matchRead (tag : Byte) : RequestHandler (takeMatchRead tag)
  | restart (tag : Byte) : RequestHandler (takeRestart tag)

/-- R175: an accepted frame is handled as one of the requests, or answered as none. -/
theorem takeRequest_handled (kind tag : Byte) (payload : List Byte) (s : State) :
    ∃ f, RequestHandler f ∧ takeRequest kind tag payload s = f s := by
  unfold takeRequest
  split
  · unfold takeBare
    split
    · exact ⟨_, .status tag, rfl⟩
    · exact ⟨_, .nameNow tag, rfl⟩
    · exact ⟨_, .matchRead tag, rfl⟩
    · exact ⟨_, .restart tag, rfl⟩
    · exact ⟨_, .malformed tag kind, rfl⟩
  · unfold takeOne
    split
    · exact ⟨_, .laneRead tag _, rfl⟩
    · exact ⟨_, .catDrop tag _, rfl⟩
    · exact ⟨_, .malformed tag kind, rfl⟩
  · unfold takeTwo
    split
    · unfold takeLaneControl
      split
      · exact ⟨_, .grant tag _, rfl⟩
      · exact ⟨_, .rewalk tag _, rfl⟩
      · exact ⟨_, .clear tag _, rfl⟩
      · exact ⟨_, .noAction tag, rfl⟩
    · exact ⟨_, .roster tag _ _, rfl⟩
    · exact ⟨_, .deviceClear tag _ _, rfl⟩
    · exact ⟨_, .catRead tag _ _, rfl⟩
    · exact ⟨_, .malformed tag kind, rfl⟩
  · unfold takeLong
    split
    · split
      · exact ⟨_, .configure tag _, rfl⟩
      · exact ⟨_, .malformed tag kind, rfl⟩
    · exact ⟨_, .deviceRead tag _ _ _ _, rfl⟩
    · exact ⟨_, .catTool tag _ _ _, rfl⟩
    · split
      · exact ⟨_, .catSlot tag _ _, rfl⟩
      · exact ⟨_, .malformed tag kind, rfl⟩
    · exact ⟨_, .malformed tag kind, rfl⟩

/-- R171: a window's bytes are none, a frame too short, or a request. -/
theorem decodeFrame_cases (bytes : List Byte) (s : State) :
    decodeFrame bytes s = s ∨ decodeFrame bytes s = setShort s ∨
      ∃ f, RequestHandler f ∧ decodeFrame bytes s = accept f s := by
  unfold decodeFrame
  split
  · exact .inl rfl
  · split
    · exact .inl rfl
    · split
      · split
        · exact .inr (.inl rfl)
        · rename_i kind _ _ tag length payload _
          obtain ⟨f, handles, eq⟩ := takeRequest_handled kind tag (payload.take length.toNat) s
          exact .inr (.inr ⟨f, handles, by simp only [accept, eq]⟩)
      · exact .inr (.inl rfl)

/-- What is to be shown of a predicate for every request to keep it. -/
structure RequestsKeep (P : State → Prop) : Prop where
  full : ∀ s, s.port.resetLow = false → P s → P (setFull s)
  request : ∀ f, RequestHandler f → ∀ s, s.port.takes → P s → P (f s)

/-- What is to be shown of a predicate for every command to keep it. -/
structure CommandsKeep (P : State → Prop) : Prop extends RequestsKeep P where
  event : ∀ {c : Instr} {n : Lane} {s t : State}, eventLane s c = some n → exec c s = .next t → P s → P t
  fall : ∀ s, P s → P (s.modPort Port.fall)
  rise : ∀ bytes s, P s → P (rise bytes s)
  powerOn : ∀ contacts csnLow s, P s → P (powerOn contacts csnLow s)
  hold : ∀ s, P s → P (holdReset s)
  release : ∀ contacts s, P s → P (releaseReset contacts s)

theorem RequestsKeep.accept {P : State → Prop} (h : RequestsKeep P) {s : State} {f : State → State}
    (handles : RequestHandler f) (hs : P s) : P (accept f s) := by
  unfold Machine.accept
  split
  · exact hs
  · split
    · rename_i low _
      exact h.full s (by simpa using low) hs
    · rename_i low full
      exact h.request f handles s ⟨by simpa using low, by simpa using full⟩ hs

/-- A chip-select rise keeps what delivery, the flag SHORT and requests keep. -/
theorem RequestsKeep.rise {P : State → Prop} (h : RequestsKeep P)
    (ignored : ∀ s, P s → P (s.modPort fun p => { p with window := .closed }))
    (delivered : ∀ s out carried k, P s → P (s.modPort fun p => p.endWindow out carried k))
    (short : ∀ s, P s → P (setShort s)) (bytes : List Byte) (s : State) (hs : P s) : P (rise bytes s) := by
  unfold Machine.rise
  split
  · exact hs
  · exact ignored s hs
  · rename_i out carried _
    have hd := delivered s out carried bytes.length hs
    obtain e | e | ⟨f, handles, e⟩ :=
      decodeFrame_cases bytes (s.modPort fun p => p.endWindow out carried bytes.length) <;> rw [e]
    · exact hd
    · exact short _ hd
    · exact h.accept handles hd

section

variable {P : State → Prop} (h : CommandsKeep P) {s t : State}
include h

/-- A predicate that events, pins, resets and requests keep is kept by every command. -/
theorem CommandsKeep.exec {c : Instr} (hs : P s) (e : exec c s = .next t) : P t := by
  cases lane : eventLane s c with
  | some n => exact h.event lane e hs
  | none =>
    cases c
    case pointJobCompletion => exact completion_idle lane e (.inl ⟨_, _, rfl⟩) ▸ hs
    case sampleJobCompletion => exact completion_idle lane e (.inr ⟨_, _, rfl⟩) ▸ hs
    case chipSelectFall => cases e; exact h.fall s hs
    case chipSelectRise => cases e; exact h.rise _ _ hs
    case hardwareReset moment contacts csnLow =>
      cases moment <;> cases e
      · exact h.powerOn contacts csnLow s hs
      · exact h.hold s hs
      · exact h.release contacts s hs
    case status => cases e; exact h.toRequestsKeep.accept (.status _) hs
    case configure => cases e; exact h.toRequestsKeep.accept (.configure _ _) hs
    case grant => cases e; exact h.toRequestsKeep.accept (.grant _ _) hs
    case rewalk => cases e; exact h.toRequestsKeep.accept (.rewalk _ _) hs
    case clear => cases e; exact h.toRequestsKeep.accept (.clear _ _) hs
    case laneRead => cases e; exact h.toRequestsKeep.accept (.laneRead _ _) hs
    case roster => cases e; exact h.toRequestsKeep.accept (.roster _ _ _) hs
    case deviceRead => cases e; exact h.toRequestsKeep.accept (.deviceRead _ _ _ _ _) hs
    case deviceClear => cases e; exact h.toRequestsKeep.accept (.deviceClear _ _ _) hs
    case catTool => cases e; exact h.toRequestsKeep.accept (.catTool _ _ _ _) hs
    case catSlot => cases e; exact h.toRequestsKeep.accept (.catSlot _ _ _) hs
    case catDrop => cases e; exact h.toRequestsKeep.accept (.catDrop _ _) hs
    case catRead => cases e; exact h.toRequestsKeep.accept (.catRead _ _ _) hs
    case nameNow => cases e; exact h.toRequestsKeep.accept (.nameNow _) hs
    case matchRead => cases e; exact h.toRequestsKeep.accept (.matchRead _) hs
    case restart => cases e; exact h.toRequestsKeep.accept (.restart _) hs
    all_goals cases lane

/-- Every step keeps such a predicate, where it does not speak of the waiting commands. -/
theorem CommandsKeep.step (queue : ∀ (s : State) (rest : List Instr), P s → P { s with pending := rest })
    (hs : P s) (e : step s = .next t) : P t := by
  unfold Machine.step at e
  split at e
  · cases e
    exact hs
  · exact h.exec (queue s _ hs) e

end

/-! ## Every command completes -/

theorem exec_next (c : Instr) (s : State) : ∃ t, exec c s = .next t := by
  cases c <;> exact ⟨_, rfl⟩

theorem RequestHandler.pending {f : State → State} (h : RequestHandler f) (s : State) : (f s).pending = s.pending := by
  cases h <;> simp

theorem requestsKeep_pending (rest : List Instr) : RequestsKeep fun s => s.pending = rest where
  full _ _ hs := hs
  request _ handles s _ hs := (handles.pending s).trans hs

theorem commandsKeep_pending (rest : List Instr) : CommandsKeep fun s => s.pending = rest where
  toRequestsKeep := requestsKeep_pending rest
  event lane e hs := (event_moves lane e).frame.pending.trans hs
  fall _ hs := hs
  rise := (requestsKeep_pending rest).rise (fun _ hs => hs) (fun _ _ _ _ hs => hs) (fun _ hs => hs)
  powerOn contacts csnLow s hs := (powerOn_pending s contacts csnLow).trans hs
  hold s hs := (holdReset_pending s).trans hs
  release contacts s hs := (releaseReset_pending s contacts).trans hs

/-! ## The statements -/

/-- Settles O1. -/
theorem stepRunsFrontCommand : Obligations.StepRunsFrontCommand :=
  ⟨fun _ _ _ => rfl, fun s empty => by simp only [step, empty]⟩

/-- Settles O2: every meaning answers a next state, and no command touches the queue's rest. -/
theorem commandsCompleteAndKeepQueue : Obligations.CommandsCompleteAndKeepQueue := by
  intro c s
  obtain ⟨t, e⟩ := exec_next c s
  exact ⟨t, e, (commandsKeep_pending s.pending).exec rfl e⟩

/-- Settles O3: an event is a chain of its lane's operations. -/
theorem eventsKeepOtherLanes : Obligations.EventsKeepOtherLanes :=
  fun _ _ _ _ lane e => (event_moves lane e).frame

end Sys2Proof.Machine
end

section
/-!
The host link port's invariant (R170, R173): an event moves the port as its lane's operations do, and a request that is
accepted, with room for a reply, places one reply or owes one.
-/

namespace Sys2Proof.Machine

/-! ## How a request changes the state before its reply -/

/-- R145, R146, R148: the ways in which a request changes the catalogue. -/
inductive CatalogueMoves (c : Catalogue) : Catalogue → Prop where
  | tool (number : Byte) (key : Identity) (bytes : PerLane Byte) {d : Catalogue}
      (judged : (c.judgeTool number key bytes).after = some d) : CatalogueMoves c d
  | slot (number : Byte) (bytes : SlotBytes) (whole : bytes.name.length = 8) {d : Catalogue}
      (judged : (c.judgeSlot number bytes).after = some d) : CatalogueMoves c d
  | drop (number : Byte) {d : Catalogue} (judged : (c.judgeDrop number).after = some d) : CatalogueMoves c d

/-- The ways in which the handling of a request changes the state before its reply is placed: the operations on lanes, and
what it writes into the settings and the catalogue. -/
inductive RequestMoves (s : State) : State → Prop where
  | refl : RequestMoves s s
  | lane {t u : State} {n : Lane} (h : RequestMoves s t) (k : LaneMoves n t u) : RequestMoves s u
  | setting {t : State} (h : RequestMoves s t) (x : SettingId) (v : Nat) :
    RequestMoves s { t with settings := t.settings.put x (x.taken v) }
  | catalogue {t : State} (h : RequestMoves s t) {c : Catalogue} (k : CatalogueMoves t.catalogue c) :
    RequestMoves s { t with catalogue := c }

theorem LaneMoves.request {n : Lane} {s t : State} (h : LaneMoves n s t) : RequestMoves s t := .lane .refl h

theorem RequestMoves.port {s t : State} (h : RequestMoves s t) : PortMoves s.port t.port := by
  induction h with
  | refl => exact .refl _
  | lane _ k ih => exact ih.trans k.port
  | setting _ _ _ ih => exact ih
  | catalogue _ _ ih => exact ih

theorem RequestMoves.resetLow {s t : State} (h : RequestMoves s t) : t.port.resetLow = s.port.resetLow := by
  induction h with
  | refl => rfl
  | lane _ k ih => exact k.frame.reset.trans ih
  | setting _ _ _ ih => exact ih
  | catalogue _ _ ih => exact ih

section

variable {s t : State} (h : RequestMoves s t)
include h

theorem passDue_requestMoves : RequestMoves s (passDue t) := .lane (n := .one) h (passDue_moves .refl)

theorem settingEffect_requestMoves (x : SettingId) (v : Nat) : RequestMoves s (settingEffect x v t) := by
  unfold settingEffect
  split
  · split
    · split
      · exact h
      · exact .lane h (disableLane_moves .refl)
    · split
      · exact .lane h (enableLane_moves .refl)
      · exact h
  · split
    · exact .lane (n := .one) h (.modTable .refl _)
    · exact h
  all_goals exact h

theorem applyPair_requestMoves (p : SettingPair) : RequestMoves s (applyPair t p) := by
  unfold applyPair
  split
  · exact h
  · exact .setting (settingEffect_requestMoves h _ _) _ _

omit h in
theorem applyPairs_requestMoves (ps : List SettingPair) :
    ∀ {t : State}, RequestMoves s t → RequestMoves s (ps.foldl applyPair t) := by
  induction ps with
  | nil => exact fun h => h
  | cons p ps ih => exact fun h => ih (applyPair_requestMoves h p)

end

/-- A request that only replies, its reply placed on a state that its handling has made. -/
def Replies (s t : State) : Prop := ∃ r u, t = placeReply r u ∧ RequestMoves s u

theorem answer_replies (tag code : Byte) (st : Status) (payload : List Byte) {s u : State} (h : RequestMoves s u) :
    Replies s (answer tag code st payload u) := ⟨_, u, rfl, h⟩

theorem laneControl_replies (tag lane : Byte) (taken : LaneState) {act : Lane → State → State} {s : State}
    (h : ∀ n, LaneMoves n s (act n s)) : Replies s (laneControl tag lane taken act s) := by
  unfold laneControl
  split
  · exact answer_replies _ _ _ _ .refl
  · split
    · exact answer_replies _ _ _ _ (h _).request
    · exact answer_replies _ _ _ _ .refl

theorem applyCatalogue_replies (tag code : Byte) {a : CatalogueAnswer} {s : State}
    (moves : ∀ c, a.after = some c → CatalogueMoves s.catalogue c) : Replies s (applyCatalogue tag code a s) := by
  unfold applyCatalogue
  split
  · exact answer_replies _ _ _ _ .refl
  · rename_i c after
    exact answer_replies _ _ _ _ (passDue_requestMoves (.catalogue .refl (moves c after)))

/-- An accepted request other than RESTART and a DEVICE_READ that passes places one reply. -/
theorem RequestHandler.replies {f : State → State} (h : RequestHandler f) (s : State) :
    Replies s (f s) ∨ (∃ tag n r, f s = startRead tag n r s) ∨ ∃ tag, f s = takeRestart tag s := by
  cases h
  case malformed => exact .inl (answer_replies _ _ _ _ .refl)
  case noAction => exact .inl (answer_replies _ _ _ _ .refl)
  case status => exact .inl (answer_replies _ _ _ _ .refl)
  case configure tag pairs =>
    unfold takeConfigure
    split
    · exact .inl (answer_replies _ _ _ _ .refl)
    · exact .inl (answer_replies _ _ _ _ (applyPairs_requestMoves _ .refl))
  case grant => exact .inl (laneControl_replies _ _ _ fun _ => grantLane_moves .refl)
  case rewalk => exact .inl (laneControl_replies _ _ _ fun _ => rewalkLane_moves .refl)
  case clear => exact .inl (laneControl_replies _ _ _ fun _ => clearLane_moves .refl)
  case laneRead =>
    unfold takeLaneRead
    split <;> exact .inl (answer_replies _ _ _ _ .refl)
  case roster =>
    unfold takeRoster
    split <;> exact .inl (answer_replies _ _ _ _ .refl)
  case deviceRead =>
    unfold takeDeviceRead
    split
    · split
      · exact .inl (answer_replies _ _ _ _ .refl)
      · exact .inr (.inl ⟨_, _, _, rfl⟩)
    · exact .inl (answer_replies _ _ _ _ .refl)
  case deviceClear =>
    unfold takeDeviceClear
    split
    · split
      · exact .inl (answer_replies _ _ _ _ .refl)
      · exact .inl (answer_replies _ _ _ _ (raiseRoster_moves (n := .one) (.modTable .refl _) _ _ _ _).request)
    · exact .inl (answer_replies _ _ _ _ .refl)
  case catTool => exact .inl (applyCatalogue_replies _ _ fun _ => .tool _ _ _)
  case catSlot =>
    unfold takeCatSlot
    split
    · rename_i whole
      exact .inl (applyCatalogue_replies _ _ fun _ => .slot _ _ whole)
    · exact .inl (answer_replies _ _ _ _ .refl)
  case catDrop => exact .inl (applyCatalogue_replies _ _ fun _ => .drop _)
  case catRead => exact .inl (answer_replies _ _ _ _ .refl)
  case nameNow => exact .inl (answer_replies _ _ _ _ (passDue_requestMoves .refl))
  case matchRead => exact .inl (answer_replies _ _ _ _ .refl)
  case restart tag => exact .inr (.inr ⟨tag, rfl⟩)

/-! ## The invariant -/

theorem PortMoves.inv {s t : State} (h : PortMoves s.port t.port) (hs : PortInv s) : PortInv t where
  bounded := Nat.le_trans h.load hs.bounded
  distinct := h.distinct hs.distinct
  buffered := h.buffered hs.buffered

theorem load_lt_of_takes {p : Port} (h : p.takes) : p.load < Config.replyLimit := by
  have := h.2
  simp only [Port.isFull, decide_eq_false_iff_not, Nat.not_le] at this
  exact this

theorem placeReply_inv {s : State} (r : Reply) (room : s.port.load < Config.replyLimit) (hs : PortInv s) :
    PortInv (placeReply r s) where
  bounded := by
    simp only [placeReply_port, List.length_append, List.length_singleton]
    show _ + s.port.owedCount ≤ _
    unfold Port.load at room
    omega
  distinct := hs.distinct
  buffered := bufferAtHead_replies hs.buffered r s.port.owed

theorem oweRead_inv {s : State} (n : Lane) (tag : Byte) (r : Read) (room : s.port.load < Config.replyLimit)
    (hs : PortInv s) : PortInv (oweRead n tag r s) where
  bounded := by
    have := owedCount_set_some s.port n tag
    unfold Port.load at room
    show _ + { s.port with owed := s.port.owed.set n (some tag) }.owedCount ≤ _
    simp only [oweRead, State.modPort_port, State.setSlot_port]
    omega
  distinct := hs.distinct
  buffered := hs.buffered

/-- R179, R180: coming up raises notices and takes lanes to SETTLING. -/
theorem comeUp_requestMoves (cause : ResetCause) (s : State) : RequestMoves s (comeUp cause s) := by
  have raised : RequestMoves s (raise (.restarted cause) s) := .lane (n := .one) .refl (.raise .refl _)
  simp only [comeUp, Lane.all, List.foldl_cons, List.foldl_nil]
  exact .lane (.lane (.lane (.lane raised (settleIfMated_moves .refl)) (settleIfMated_moves .refl))
    (settleIfMated_moves .refl)) (settleIfMated_moves .refl)

/-- A port that holds no reply, no notice and no frame. -/
theorem portInv_of_empty {s : State} (replies : s.port.replies = []) (owed : s.port.owed = PerLane.fill none)
    (notices : s.port.notices = []) (buffer : s.port.buffer = none) : PortInv s where
  bounded := by
    rw [Port.owedCount, replies, owed]
    decide
  distinct := by simp [notices]
  buffered := by simp [bufferAtHead, buffer]

theorem takeRestart_inv (tag : Byte) (s : State) : PortInv (takeRestart tag s) := by
  have empty : PortInv s.restarted := portInv_of_empty rfl rfl rfl rfl
  have come := (comeUp_requestMoves .restartRequest s.restarted).port
  have none : s.restarted.port.load = 0 := rfl
  refine placeReply_inv _ (Nat.lt_of_le_of_lt come.load ?_) (come.inv empty)
  rw [none]
  decide

theorem fillBuffer_inv {s : State} (hs : PortInv s) : PortInv (s.modPort Port.fillBuffer) := by
  obtain ⟨bounded, distinct, buffered⟩ := hs
  unfold Port.fillBuffer
  constructor
  all_goals simp only [State.modPort_port]
  all_goals split
  all_goals try assumption
  · rename_i y ys _ _ notices
    have : y.notice.settled.key = y.notice.key := by cases y.notice <;> rfl
    rw [notices, List.map_cons] at distinct
    simpa only [List.map_cons, this] using distinct
  · rename_i replies
    simp [bufferAtHead, replies]
  · rename_i y ys _ _ notices
    have : y.notice.settled.key = y.notice.key := by cases y.notice <;> rfl
    simp [bufferAtHead, this]

theorem fall_inv {s : State} (hs : PortInv s) : PortInv (s.modPort Port.fall) := by
  have filled := fillBuffer_inv hs
  obtain ⟨bounded, distinct, buffered⟩ := hs
  constructor
  all_goals simp only [State.modPort_port, Port.fall]
  all_goals split
  all_goals try assumption
  all_goals split
  all_goals try assumption
  · exact filled.bounded
  · exact filled.distinct
  · exact filled.buffered

/-- R173: settling a slot keeps one notice for each source and kind. -/
theorem settleSlot_nodup {k : NoticeKey} {l : List NoticeSlot} (h : (l.map fun y => y.notice.key).Nodup) :
    ((settleSlot k l).map fun y => y.notice.key).Nodup :=
  h.sublist (List.filter_sublist.map _)

theorem deliver_inv {s : State} (hs : PortInv s) : PortInv (s.modPort Port.deliver) := by
  obtain ⟨bounded, distinct, buffered⟩ := hs
  unfold Port.deliver
  constructor
  all_goals simp only [State.modPort_port]
  all_goals split
  all_goals try assumption
  · refine Nat.le_trans ?_ bounded
    simp only [List.length_tail]
    exact Nat.add_le_add_right (Nat.sub_le _ _) _
  · exact settleSlot_nodup distinct
  · trivial
  · trivial

theorem endWindow_inv {s : State} (out : List Byte) (carried : LinkFlags) (k : Nat) (hs : PortInv s) :
    PortInv (s.modPort fun p => p.endWindow out carried k) := by
  have delivered := deliver_inv hs
  obtain ⟨bounded, distinct, buffered⟩ := hs
  constructor
  all_goals simp only [State.modPort_port, Port.endWindow]
  all_goals split
  all_goals try assumption
  · exact delivered.bounded
  · exact delivered.distinct
  · exact delivered.buffered

theorem requestsKeep_portInv : RequestsKeep PortInv where
  full _ _ hs := ⟨hs.bounded, hs.distinct, hs.buffered⟩
  request f handles s takes hs := by
    have room := load_lt_of_takes takes
    obtain ⟨r, u, e, moves⟩ | ⟨tag, n, r, e⟩ | ⟨tag, e⟩ := handles.replies s <;> rw [e]
    · exact placeReply_inv r (Nat.lt_of_le_of_lt moves.port.load room) (moves.port.inv hs)
    · exact (startRead_moves n tag r s).port.inv (oweRead_inv n tag r room hs)
    · exact takeRestart_inv tag s

theorem commandsKeep_portInv : CommandsKeep PortInv where
  toRequestsKeep := requestsKeep_portInv
  event lane e hs := (event_moves lane e).port.inv hs
  fall _ hs := fall_inv hs
  rise := requestsKeep_portInv.rise (fun _ hs => ⟨hs.bounded, hs.distinct, hs.buffered⟩)
    (fun _ _ _ _ hs => endWindow_inv _ _ _ hs) (fun _ hs => ⟨hs.bounded, hs.distinct, hs.buffered⟩)
  powerOn contacts csnLow s _ := (comeUp_requestMoves _ _).port.inv (portInv_of_empty rfl rfl rfl rfl)
  hold s hs := by
    unfold holdReset
    split
    · exact hs
    · exact portInv_of_empty rfl rfl rfl rfl
  release contacts s hs := by
    unfold releaseReset
    split
    · exact (comeUp_requestMoves _ _).port.inv (portInv_of_empty rfl rfl rfl rfl)
    · exact hs

/-- Settles O5: every command keeps the port's invariant. -/
theorem portInvKept : Obligations.PortInvKept :=
  fun _ _ hs e => commandsKeep_portInv.step (fun _ _ h => ⟨h.bounded, h.distinct, h.buffered⟩) hs e

end Sys2Proof.Machine
end

section
/-!
The tool catalogue: what its lookups, its judgements and its changes come to (R143 to R148), and that each change keeps
its structure.
-/

namespace Sys2Proof.Machine

/-! ## Tools by number -/

/-- The tools stand by ascending number (R143). -/
abbrev Ascending (ts : List Tool) : Prop := ts.Pairwise fun t u => t.number < u.number

section

variable {x : Tool} {ts : List Tool} (h : Ascending ts)
include h

theorem mem_insertTool {t : Tool} : t ∈ insertTool x ts ↔ t = x ∨ (t ∈ ts ∧ t.number ≠ x.number) := by
  induction ts with
  | nil => simp [insertTool]
  | cons u us ih =>
    obtain ⟨first, rest⟩ := List.pairwise_cons.mp h
    simp only [insertTool]
    split
    · rename_i before
      have apart : ∀ v ∈ u :: us, v.number ≠ x.number := fun v hv => by
        rcases List.mem_cons.mp hv with rfl | hv
        · omega
        · have := first v hv
          omega
      simp only [List.mem_cons (b := x)]
      exact or_congr_right ⟨fun m => ⟨m, apart t m⟩, And.left⟩
    · split
      · rename_i same
        have apart : ∀ v ∈ us, v.number ≠ x.number := fun v hv => by
          have := first v hv
          omega
        simp only [List.mem_cons]
        constructor
        · rintro (e | m)
          · exact .inl e
          · exact .inr ⟨.inr m, apart t m⟩
        · rintro (e | ⟨rfl | m, differ⟩)
          · exact .inl e
          · exact absurd same.symm differ
          · exact .inr m
      · rename_i after differ
        simp only [List.mem_cons, ih rest]
        constructor
        · rintro (rfl | e | ⟨m, d⟩)
          · exact .inr ⟨.inl rfl, fun e => differ e.symm⟩
          · exact .inl e
          · exact .inr ⟨.inr m, d⟩
        · rintro (e | ⟨rfl | m, d⟩)
          · exact .inr (.inl e)
          · exact .inl rfl
          · exact .inr (.inr ⟨m, d⟩)

theorem insertTool_ascending : Ascending (insertTool x ts) := by
  induction ts with
  | nil => simp [insertTool]
  | cons u us ih =>
    obtain ⟨first, rest⟩ := List.pairwise_cons.mp h
    simp only [insertTool]
    split
    · rename_i before
      refine List.pairwise_cons.mpr ⟨fun v hv => ?_, h⟩
      rcases List.mem_cons.mp hv with rfl | hv
      · exact before
      · exact Nat.lt_trans before (first v hv)
    · split
      · rename_i same
        exact List.pairwise_cons.mpr ⟨fun v hv => same ▸ first v hv, rest⟩
      · rename_i after differ
        refine List.pairwise_cons.mpr ⟨fun v hv => ?_, ih rest⟩
        rcases (mem_insertTool rest).mp hv with rfl | ⟨hv, -⟩
        · omega
        · exact first v hv

/-- The keys stay distinct under a tool whose key no other number's tool has. -/
theorem insertTool_keys (keys : (ts.map Tool.key).Nodup) (fresh : ∀ t ∈ ts, t.number ≠ x.number → t.key ≠ x.key) :
    ((insertTool x ts).map Tool.key).Nodup := by
  induction ts with
  | nil => simp [insertTool]
  | cons u us ih =>
    obtain ⟨first, rest⟩ := List.pairwise_cons.mp h
    rw [List.map_cons, List.nodup_cons] at keys
    obtain ⟨only, keys⟩ := keys
    simp only [insertTool]
    split
    · rename_i before
      rw [List.map_cons, List.nodup_cons]
      refine ⟨fun m => ?_, by simpa using ⟨by simpa using only, keys⟩⟩
      obtain ⟨v, hv, e⟩ := List.mem_map.mp m
      refine fresh v hv ?_ e
      rcases List.mem_cons.mp hv with rfl | hv
      · omega
      · have := first v hv
        omega
    · split
      · rename_i same
        rw [List.map_cons, List.nodup_cons]
        refine ⟨fun m => ?_, keys⟩
        obtain ⟨v, hv, e⟩ := List.mem_map.mp m
        have := first v hv
        exact fresh v (List.mem_cons_of_mem _ hv) (by omega) e
      · rename_i after differ
        rw [List.map_cons, List.nodup_cons]
        refine ⟨fun m => ?_, ih rest keys fun t ht => fresh t (List.mem_cons_of_mem _ ht)⟩
        obtain ⟨v, hv, e⟩ := List.mem_map.mp m
        rcases (mem_insertTool rest).mp hv with rfl | ⟨hv, -⟩
        · exact fresh u List.mem_cons_self (fun e => differ e.symm) e.symm
        · exact only (List.mem_map.mpr ⟨v, hv, e⟩)

/-- R143: the pool places after a tool is defined under a number that is undefined. -/
theorem insertTool_places_new (new : ∀ t ∈ ts, t.number ≠ x.number) :
    ((insertTool x ts).map fun t => t.slots.length).sum = (ts.map fun t => t.slots.length).sum + x.slots.length := by
  induction ts with
  | nil => simp [insertTool]
  | cons u us ih =>
    have rest := (List.pairwise_cons.mp h).2
    simp only [insertTool]
    split
    · simp; omega
    · split
      · rename_i same
        exact absurd same.symm (new u List.mem_cons_self)
      · simp only [List.map_cons, List.sum_cons, ih rest fun t ht => new t (List.mem_cons_of_mem _ ht)]
        omega

/-- R143: the pool places after a tool takes the place of one with its number. -/
theorem insertTool_places_old {t : Tool} (ht : t ∈ ts) (same : t.number = x.number) :
    ((insertTool x ts).map fun t => t.slots.length).sum + t.slots.length =
      (ts.map fun t => t.slots.length).sum + x.slots.length := by
  induction ts with
  | nil => simp at ht
  | cons u us ih =>
    obtain ⟨first, rest⟩ := List.pairwise_cons.mp h
    simp only [insertTool]
    rcases List.mem_cons.mp ht with rfl | ht
    · rw [if_neg (by omega), if_pos same.symm]
      simp; omega
    · have := first t ht
      rw [if_neg (by omega), if_neg (by omega)]
      simp only [List.map_cons, List.sum_cons]
      have := ih rest ht
      omega

end

/-! ## Lookups -/

theorem tool_mem {c : Catalogue} {k : Nat} {t : Tool} (h : c.tool k = some t) : t ∈ c.tools ∧ t.number = k :=
  ⟨List.mem_of_find?_eq_some h, by simpa using List.find?_some h⟩

theorem tool_none {c : Catalogue} {k : Nat} : c.tool k = none ↔ ∀ t ∈ c.tools, t.number ≠ k := by
  simp [Catalogue.tool, List.find?_eq_none]

/-- R143: no two tools have one number. -/
theorem tool_of_mem {c : Catalogue} (h : Ascending c.tools) {t : Tool} (ht : t ∈ c.tools) : c.tool t.number = some t := by
  obtain ⟨ts⟩ := c
  simp only [Catalogue.tool]
  induction ts with
  | nil => simp at ht
  | cons u us ih =>
    obtain ⟨first, rest⟩ := List.pairwise_cons.mp h
    rcases List.mem_cons.mp ht with rfl | ht
    · simp
    · have := first t ht
      rw [List.find?_cons_of_neg (by simp; omega)]
      exact ih rest ht

theorem keyHolder_none {c : Catalogue} {k : Nat} {key : Identity} :
    c.keyHolder k key = none ↔ ∀ t ∈ c.tools, t.number ≠ k → t.key ≠ key := by
  simp [Catalogue.keyHolder, List.find?_eq_none]

theorem lowestUndefined_bounds {c : Catalogue} {k : Nat} (h : c.lowestUndefined = some k) :
    1 ≤ k ∧ k ≤ Config.toolCount := by
  have := List.mem_of_find?_eq_some h
  simp only [List.mem_map, List.mem_range] at this
  obtain ⟨i, hi, rfl⟩ := this
  omega

/-! ## Slot fields -/

/-- R146: a name field of 8 bytes gives an allowed name. -/
theorem nameField_allowed {bytes name : List Byte} (h : nameField bytes = some name) (whole : bytes.length = 8) :
    nameAllowed name := by
  unfold nameField at h
  simp only at h
  split at h
  · rename_i checks
    obtain ⟨nonempty, -, characters, first⟩ := checks
    obtain rfl := Option.some.inj h
    refine ⟨List.length_pos_iff.mpr nonempty, ?_, first, fun c hc => ?_⟩
    · exact Nat.le_trans (List.takeWhile_prefix _).length_le (Nat.le_of_eq whole)
    · simpa using List.all_eq_true.mp characters c hc
  · cases h

/-- R146 step 1: the parts of a slot whose fields pass. -/
theorem slotField_parts {bytes : SlotBytes} {x : Slot} (h : slotField bytes = some x) :
    nameField bytes.name = some x.name ∧ fillingField bytes.pinFlag bytes.pin bytes.ordinal = some x.filling ∧
      x.depth = 0 := by
  unfold slotField at h
  split at h
  · rename_i name lane leg required filling hn hl hg hr hf
    obtain rfl := Option.some.inj h
    exact ⟨hn, hf, rfl⟩
  · cases h

theorem fillingField_ordinal {flag ordinal : Byte} {pin : Identity} {k : Nat}
    (h : fillingField flag pin ordinal = some (.ordinal k)) : 1 ≤ k ∧ k ≤ 8 := by
  unfold fillingField at h
  split at h
  · split at h
    · rename_i checks
      obtain rfl := Filling.ordinal.inj (Option.some.inj h)
      exact checks.2
    · cases h
  · split at h <;> cases h
  · cases h

/-! ## Slots of a tool (R144, R146) -/

/-- R146 step 5: a parent's place, where a slot has one. -/
theorem slot_of_index (t : Tool) {i : Nat} (h : i ≠ 0) : t.slot i = t.slots[i - 1]? := if_neg h

theorem parentFits_iff (t : Tool) {x : Slot} (h : x.parent ≠ 0) :
    t.parentFits x = true ↔ ∃ p, t.slots[x.parent - 1]? = some p ∧ p.cls = Config.junctionClass ∧ p.lane = x.lane := by
  rw [Tool.parentFits, slot_of_index t h]
  cases t.slots[x.parent - 1]? <;> simp

theorem depthOf_root (t : Tool) {x : Slot} (h : x.parent = 0) : t.depthOf x = 0 := if_pos h

theorem depthOf_under (t : Tool) {x p : Slot} (h : x.parent ≠ 0) (parent : t.slots[x.parent - 1]? = some p) :
    t.depthOf x = p.depth + 1 := by
  rw [Tool.depthOf, if_neg h, slot_of_index t h, parent]
  rfl

theorem indexWhere_none {t : Tool} {p : Slot → Bool} : t.indexWhere p = none ↔ ∀ y ∈ t.slots, p y = false := by
  simp [Tool.indexWhere, List.findIdx?_eq_none_iff]

/-- R146: what holds of a slot that has no conflict with its tool. -/
structure Slot.Accepted (t : Tool) (x : Slot) : Prop where
  lane : t.expects.get x.lane ≠ .nothing
  parent : x.parent ≠ 0 → t.parentFits x = true
  depth : t.depthOf x ≤ Config.walkDepth
  leg : (x.parent = 0) ↔ ¬x.leg.isSome = true
  name : ∀ y ∈ t.slots, (y.name == x.name) = false
  position : ∀ y ∈ t.slots, x.samePosition y = false
  pin : ∀ y ∈ t.slots, x.samePin y = false

theorem slotConflict_none {t : Tool} {x : Slot} (h : t.slotConflict x = none) : x.Accepted t := by
  unfold Tool.slotConflict at h
  split at h
  · cases h
  · rename_i lane
    split at h
    · cases h
    · rename_i parent
      split at h
      · cases h
      · rename_i depth
        split at h
        · cases h
        · rename_i leg
          split at h
          · cases h
          · rename_i name
            split at h
            · cases h
            · rename_i position
              refine ⟨lane, fun hp => ?_, Nat.le_of_not_lt depth, ?_, indexWhere_none.mp name, indexWhere_none.mp position,
                indexWhere_none.mp (Option.map_eq_none_iff.mp h)⟩
              · simpa [hp] using parent
              · cases hl : x.leg.isSome <;> simp_all

/-- R144: an accepted slot fits the slots before it. -/
theorem accepted_fits {t : Tool} {x : Slot} (h : x.Accepted t) :
    ({ x with depth := t.depthOf x } : Slot).fits t.slots := by
  unfold Slot.fits
  split
  · rename_i root
    exact ⟨by simpa using h.leg.mp root, depthOf_root t root⟩
  · rename_i under
    obtain ⟨p, found, junction, lane⟩ := (parentFits_iff t under).mp (h.parent under)
    have some : x.leg.isSome = true := Decidable.byContradiction fun none => under (h.leg.mpr none)
    exact ⟨some, h.depth, p, found, junction, lane, depthOf_under t under found⟩

/-- R146: a tool keeps its structure under an accepted slot. -/
theorem append_keeps {t : Tool} (ht : ToolInv t) {x : Slot} (h : x.Accepted t) (name : nameAllowed x.name)
    (ordinal : ∀ k, x.filling = .ordinal k → 1 ≤ k ∧ k ≤ 8) : ToolInv (t.append x) where
  number := ht.number
  names y hy := by
    rcases List.mem_append.mp hy with hy | hy
    · exact ht.names y hy
    · obtain rfl := List.mem_singleton.mp hy
      exact name
  distinct := by
    have apart : ∀ y ∈ t.slots, y.name ≠ x.name := fun y hy => by simpa using h.name y hy
    simp only [Tool.append, List.map_append, List.map_cons, List.map_nil, List.nodup_append, ht.distinct, true_and]
    refine ⟨by simp, fun a ha b hb => ?_⟩
    obtain ⟨y, hy, rfl⟩ := List.mem_map.mp ha
    obtain rfl := List.mem_singleton.mp hb
    exact apart y hy
  lanes y hy := by
    rcases List.mem_append.mp hy with hy | hy
    · exact ht.lanes y hy
    · obtain rfl := List.mem_singleton.mp hy
      exact h.lane
  fits i y hi := by
    simp only [Tool.append] at hi ⊢
    rw [List.getElem?_append] at hi
    split at hi
    · rename_i inside
      rw [List.take_append_of_le_length (Nat.le_of_lt inside)]
      exact ht.fits i y hi
    · have : i = t.slots.length := by
        have := (List.getElem?_eq_some_iff.mp hi).1
        simp at this
        omega
      subst this
      simp only [Nat.sub_self, List.getElem?_cons_zero, Option.some.injEq] at hi
      subst hi
      rw [List.take_left]
      exact accepted_fits h
  ordinals y hy k hk := by
    rcases List.mem_append.mp hy with hy | hy
    · exact ht.ordinals y hy k hk
    · obtain rfl := List.mem_singleton.mp hy
      exact ordinal k hk
  apart := by
    refine List.pairwise_append.mpr ⟨ht.apart, List.pairwise_singleton _ _, fun y hy z hz => ?_⟩
    obtain rfl := List.mem_singleton.mp hz
    exact ⟨h.pin y hy, h.position y hy⟩

/-! ## Changes keep the catalogue's structure -/

section

variable {c d : Catalogue} (hc : CatalogueInv c)
include hc

theorem define_keeps {x : Tool} (hx : ToolInv x) (fresh : ∀ t ∈ c.tools, t.number ≠ x.number → t.key ≠ x.key)
    (places : (c.define x).places ≤ Config.poolPlaces) : CatalogueInv (c.define x) where
  tools t ht := by
    rcases (mem_insertTool hc.ascending).mp ht with rfl | ⟨ht, -⟩
    · exact hx
    · exact hc.tools t ht
  ascending := insertTool_ascending hc.ascending
  keys := insertTool_keys hc.ascending hc.keys fresh
  places := places

/-- R143: the pool places after a tool takes a number. -/
theorem define_places (x : Tool) : (c.define x).places ≤ c.places + x.slots.length := by
  cases e : c.tool x.number with
  | none => exact Nat.le_of_eq (insertTool_places_new hc.ascending (tool_none.mp e))
  | some t =>
    have : (c.define x).places + t.slots.length = c.places + x.slots.length :=
      insertTool_places_old hc.ascending (tool_mem e).1 (tool_mem e).2
    omega

theorem defineTool_keeps {k : Nat} (hk : 1 ≤ k ∧ k ≤ Config.toolCount) {key : Identity} {expects : PerLane Expectation}
    (h : (c.defineTool k key expects).after = some d) : CatalogueInv d := by
  unfold Catalogue.defineTool at h
  split at h
  · cases h
  · rename_i fresh
    obtain rfl := Option.some.inj h
    refine define_keeps hc ?_ (keyHolder_none.mp fresh) (Nat.le_trans (define_places hc _) hc.places)
    exact ⟨hk, by simp, by simp, by simp, by simp, by simp, by simp⟩

theorem judgeTool_keeps {number : Byte} {key : Identity} {bytes : PerLane Byte}
    (h : (c.judgeTool number key bytes).after = some d) : CatalogueInv d := by
  unfold Catalogue.judgeTool at h
  split at h
  · cases h
  · split at h
    · cases h
    · rename_i small
      split at h
      · split at h
        · cases h
        · rename_i lowest
          exact defineTool_keeps hc (lowestUndefined_bounds lowest) h
      · rename_i nonzero
        refine defineTool_keeps hc ⟨?_, Nat.le_of_not_lt small⟩ h
        have : number.toNat ≠ 0 := fun e => nonzero (BitVec.eq_of_toNat_eq e)
        omega

theorem judgeSlot_keeps {number : Byte} {bytes : SlotBytes} (whole : bytes.name.length = 8)
    (h : (c.judgeSlot number bytes).after = some d) : CatalogueInv d := by
  unfold Catalogue.judgeSlot at h
  split at h
  · cases h
  · rename_i x fields
    obtain ⟨name, filling, -⟩ := slotField_parts fields
    split at h
    · cases h
    · split at h
      · cases h
      · rename_i t found
        obtain ⟨ht, -⟩ := tool_mem found
        split at h
        · rename_i room
          unfold Catalogue.appendSlot at h
          split at h
          · cases h
          · rename_i free
            obtain rfl := Option.some.inj h
            have accepted := slotConflict_none free
            have kept := append_keeps (hc.tools t ht) accepted (nameField_allowed name whole)
              fun k hk => fillingField_ordinal (hk ▸ filling)
            refine define_keeps hc kept (fun u hu differ same => differ ?_) ?_
            · rw [eq_of_distinct_images hc.keys hu ht same]
              rfl
            · have : (c.define (t.append x)).places + t.slots.length = c.places + (t.slots.length + 1) := by
                have := insertTool_places_old (x := t.append x) hc.ascending ht rfl
                simpa [Catalogue.places, Catalogue.define, Tool.append] using this
              omega
        · cases h

/-- R148: a drop leaves the other tools. -/
theorem sublist_keeps {ts : List Tool} (h : ts.Sublist c.tools) : CatalogueInv { tools := ts } where
  tools t ht := hc.tools t (h.subset ht)
  ascending := hc.ascending.sublist h
  keys := hc.keys.sublist (h.map _)
  places := Nat.le_trans (sum_sublist (h.map _)) hc.places

theorem judgeDrop_keeps {number : Byte} (h : (c.judgeDrop number).after = some d) : CatalogueInv d := by
  unfold Catalogue.judgeDrop at h
  split at h
  · cases h
  · split at h
    · simp only at h
      split at h
      · cases h
      · obtain rfl := Option.some.inj h
        exact sublist_keeps hc (List.nil_sublist _)
    · split at h
      · cases h
      · obtain rfl := Option.some.inj h
        exact sublist_keeps hc List.filter_sublist

theorem CatalogueMoves.keeps (h : CatalogueMoves c d) : CatalogueInv d := by
  cases h with
  | tool _ _ _ judged => exact judgeTool_keeps hc judged
  | slot _ _ whole judged => exact judgeSlot_keeps hc whole judged
  | drop _ judged => exact judgeDrop_keeps hc judged

end

end Sys2Proof.Machine
end

section
/-!
The settings keep their ranges (R176), the catalogue its structure (R143, R144), and a part held in reset its reset values
(R174, R180).
-/

namespace Sys2Proof.Machine

/-! ## Settings in their ranges -/

theorem clampStep_low {low high step : Nat} (le : low ≤ high) (whole : step ∣ low) (v : Nat) :
    low ≤ clampStep low high step v := by
  unfold clampStep
  split
  · exact Nat.le_refl _
  · split
    · exact le
    · rename_i above _
      obtain ⟨k, rfl⟩ := whole
      rcases Nat.eq_zero_or_pos step with rfl | pos
      · simp
      · rw [Nat.mul_comm]
        exact Nat.mul_le_mul_right _ ((Nat.le_div_iff_mul_le pos).mpr (by rw [Nat.mul_comm]; omega))

theorem clampStep_high {low high step : Nat} (le : low ≤ high) (v : Nat) : clampStep low high step v ≤ high := by
  unfold clampStep
  split
  · exact le
  · split
    · exact Nat.le_refl _
    · have := Nat.div_mul_le_self v step
      omega

theorem clampStep_mod {low high step : Nat} (l : step ∣ low) (h : step ∣ high) (v : Nat) :
    clampStep low high step v % step = 0 := by
  unfold clampStep
  split
  · exact Nat.mod_eq_zero_of_dvd l
  · split
    · exact Nat.mod_eq_zero_of_dvd h
    · exact Nat.mul_mod_left _ _

/-- R176: a value brought into a range whose ends stand on the step. -/
theorem clampStep_range (low high step v : Nat) (le : low ≤ high) (l : step ∣ low) (h : step ∣ high) :
    low ≤ clampStep low high step v ∧ clampStep low high step v ≤ high ∧ clampStep low high step v % step = 0 :=
  ⟨clampStep_low le l v, clampStep_high le v, clampStep_mod l h v⟩

/-- R176: a value taken for a setting lies in the setting's range. -/
theorem SettingsInv.put {g : Settings} (h : SettingsInv g) (x : SettingId) (v : Nat) :
    SettingsInv (g.put x (x.taken v)) := by
  cases x with
  | mateSettle => exact { h with mateSettle := clampStep_range 10 250 10 v (by decide) (by decide) (by decide) }
  | remateHold => exact { h with remateHold := (clampStep_range 0 5000 100 v (by decide) (by decide) (by decide)).2 }
  | bootWait => exact { h with bootWait := clampStep_range 5 500 5 v (by decide) (by decide) (by decide) }
  | stallLimit =>
    obtain ⟨low, high, -⟩ := clampStep_range 1 50 1 v (by decide) (by decide) (by decide)
    exact { h with stallLimit := ⟨low, high⟩ }
  | retryLimit => exact { h with retryLimit := (clampStep_range 0 7 1 v (by decide) (by decide) (by decide)).2.1 }
  | rollCallPeriod => exact { h with rollCallPeriod := clampStep_range 50 2000 10 v (by decide) (by decide) (by decide) }
  | lossCount =>
    obtain ⟨low, high, -⟩ := clampStep_range 1 7 1 v (by decide) (by decide) (by decide)
    exact { h with lossCount := ⟨low, high⟩ }
  | degradeThreshold =>
    obtain ⟨low, high, -⟩ := clampStep_range 1 255 1 v (by decide) (by decide) (by decide)
    exact { h with degradeThreshold := ⟨low, high⟩ }
  | sweepBudget => exact { h with sweepBudget := (clampStep_range 0 15 1 v (by decide) (by decide) (by decide)).2.1 }
  | sweep => exact { h with }
  | policy => exact { h with }
  | enable => exact { h with }
  | lineRate => exact { h with }

theorem defaults_settingsInv : SettingsInv Settings.defaults := by
  constructor <;> decide

/-! ## What requests keep of the settings and the catalogue -/

theorem RequestMoves.settingsInv {s t : State} (h : RequestMoves s t) (hs : SettingsInv s.settings) :
    SettingsInv t.settings := by
  induction h with
  | refl => exact hs
  | lane _ k ih => exact k.frame.settings ▸ ih
  | setting _ x v ih => exact ih.put x v
  | catalogue _ _ ih => exact ih

theorem RequestMoves.catalogueInv {s t : State} (h : RequestMoves s t) (hs : CatalogueInv s.catalogue) :
    CatalogueInv t.catalogue := by
  induction h with
  | refl => exact hs
  | lane _ k ih => exact k.frame.catalogue ▸ ih
  | setting _ _ _ ih => exact ih
  | catalogue _ k ih => exact k.keeps ih

/-- What the handling of a request leads to: its moves on the state, or on the restarted state, or an owed read's start. -/
theorem RequestHandler.moves {f : State → State} (h : RequestHandler f) (s : State) :
    (∃ r u, f s = placeReply r u ∧ RequestMoves s u) ∨ (∃ tag n r, RequestMoves (oweRead n tag r s) (f s)) ∨
      ∃ r u, f s = placeReply r u ∧ RequestMoves s.restarted u := by
  obtain h | ⟨tag, n, r, e⟩ | ⟨tag, e⟩ := h.replies s
  · exact .inl h
  · exact .inr (.inl ⟨tag, n, r, e ▸ (startRead_moves n tag r s).request⟩)
  · exact .inr (.inr ⟨_, _, e, comeUp_requestMoves _ _⟩)

theorem defaults_catalogueInv : CatalogueInv Catalogue.reset :=
  ⟨by simp [Catalogue.reset], by simp [Catalogue.reset], by simp [Catalogue.reset], by decide⟩

theorem requestsKeep_settings : RequestsKeep fun s => SettingsInv s.settings where
  full _ _ hs := hs
  request f handles s _ hs := by
    obtain ⟨r, u, e, moves⟩ | ⟨tag, n, r, moves⟩ | ⟨r, u, e, moves⟩ := handles.moves s
    · exact e ▸ moves.settingsInv hs
    · exact moves.settingsInv hs
    · exact e ▸ moves.settingsInv hs

theorem commandsKeep_settings : CommandsKeep fun s => SettingsInv s.settings where
  toRequestsKeep := requestsKeep_settings
  event lane e hs := (event_moves lane e).frame.settings ▸ hs
  fall _ hs := hs
  rise := requestsKeep_settings.rise (fun _ hs => hs) (fun _ _ _ _ hs => hs) fun _ hs => hs
  powerOn contacts csnLow s _ := (comeUp_requestMoves _ _).settingsInv defaults_settingsInv
  hold s hs := by
    unfold holdReset
    split
    · exact hs
    · exact defaults_settingsInv
  release contacts s hs := by
    unfold releaseReset
    split
    · exact (comeUp_requestMoves _ _).settingsInv defaults_settingsInv
    · exact hs

theorem requestsKeep_catalogue : RequestsKeep fun s => CatalogueInv s.catalogue where
  full _ _ hs := hs
  request f handles s _ hs := by
    obtain ⟨r, u, e, moves⟩ | ⟨tag, n, r, moves⟩ | ⟨r, u, e, moves⟩ := handles.moves s
    · exact e ▸ moves.catalogueInv hs
    · exact moves.catalogueInv hs
    · exact e ▸ moves.catalogueInv hs

theorem commandsKeep_catalogue : CommandsKeep fun s => CatalogueInv s.catalogue where
  toRequestsKeep := requestsKeep_catalogue
  event lane e hs := (event_moves lane e).frame.catalogue ▸ hs
  fall _ hs := hs
  rise := requestsKeep_catalogue.rise (fun _ hs => hs) (fun _ _ _ _ hs => hs) fun _ hs => hs
  powerOn contacts csnLow s _ := (comeUp_requestMoves _ _).catalogueInv defaults_catalogueInv
  hold s hs := by
    unfold holdReset
    split
    · exact hs
    · exact defaults_catalogueInv
  release contacts s hs := by
    unfold releaseReset
    split
    · exact (comeUp_requestMoves _ _).catalogueInv defaults_catalogueInv
    · exact hs

/-! ## A part held in reset -/

theorem heldInv_of_high {s : State} (h : s.port.resetLow = false) : HeldInv s where
  held low := by simp [h] at low
  unclocked low := by simp [h] at low

/-- R180: a part held in reset has every lane's column at its reset values, and no job. -/
structure Rests (s : State) : Prop where
  low : s.port.resetLow = true
  columns : ∀ n, s.col n = Column.reset
  converter : s.converter = Converter.reset

theorem HeldInv.rests {s : State} (h : HeldInv s) (low : s.port.resetLow = true) : Rests s := by
  have e := h.held low
  refine ⟨low, fun n => ?_, ?_⟩
  · rw [e]
    exact PerLane.get_fill _ _
  · rw [e]
    rfl

/-- R180: while RESETN is low no event changes the part. -/
theorem Rests.event {s t : State} (h : Rests s) {c : Instr} {n : Lane} (lane : eventLane s c = some n)
    (e : exec c s = .next t) : t = s := by
  obtain ⟨low, columns, converter⟩ := h
  have col := columns n
  cases c
  case mateEvent => cases lane; cases e; simp [State.follows, low]
  case openEvent => cases lane; cases e; simp [State.follows, low]
  case tripEvent =>
    cases lane; cases e
    simp [tripCheck, Supervisor.trips, Supervisor.comparator, col, Column.reset, Supervisor.reset]
  case settleTimerExpiry => cases lane; cases e; simp [col, Column.reset, LaneCtl.reset, Timer.isRunning]
  case grantWindowExpiry => cases lane; cases e; simp [col, Column.reset, LaneCtl.reset, Timer.isRunning]
  case inrushWindowExpiry => cases lane; cases e; simp [col, Column.reset, Supervisor.reset, Timer.isRunning]
  case sampleDueInstant => cases lane; cases e; simp [col, Column.reset, Supervisor.reset, Timer.isRunning]
  case bootWaitExpiry => cases lane; cases e; simp [col, Column.reset, LaneCtl.reset, Timer.isRunning]
  case remateHoldExpiry => cases lane; cases e; simp [col, Column.reset, LaneCtl.reset, Timer.isRunning]
  case pointJobCompletion => simp [eventLane, converter, Converter.reset] at lane
  case sampleJobCompletion => simp [eventLane, converter, Converter.reset] at lane
  case idleCheckPassed => cases lane; cases e; simp [col, Column.reset, Engine.reset]
  case lineStuck => cases lane; cases e; simp [col, Column.reset, Engine.reset]
  case stall =>
    cases lane; cases e
    simp [Engine.attempted, col, Column.reset, Engine.reset, EnginePhase.attempting]
  case collision =>
    cases lane; cases e
    simp [Engine.attempted, col, Column.reset, Engine.reset, EnginePhase.attempting]
  case attemptEnd =>
    cases lane; cases e
    simp [Engine.attempted, col, Column.reset, Engine.reset, EnginePhase.attempting]
  case closingStop => cases lane; cases e; simp [col, Column.reset, Engine.reset]
  case closingGivenUp => cases lane; cases e; simp [col, Column.reset, Engine.reset]
  case rollCallPeriodExpiry => cases lane; cases e; simp [col, Column.reset, RollCall.reset, Timer.isRunning]
  all_goals cases lane

/-- A held part whose window alone changes, to none or to one that is ignored, is still held. -/
theorem HeldInv.withWindow {s : State} (h : HeldInv s) (low : s.port.resetLow = true) (w : Window)
    (unclocked : w = .closed ∨ w = .ignored) : HeldInv (s.modPort fun p => { p with window := w }) where
  held _ := by
    conv => lhs; rw [h.held low]
    rfl
  unclocked _ := unclocked

theorem RequestHandler.resetLow {f : State → State} (h : RequestHandler f) (s : State) :
    (f s).port.resetLow = s.port.resetLow := by
  obtain ⟨r, u, e, moves⟩ | ⟨tag, n, r, moves⟩ | ⟨r, u, e, moves⟩ := h.moves s
  · exact e ▸ moves.resetLow
  · exact moves.resetLow
  · exact e ▸ moves.resetLow

theorem requestsKeep_high : RequestsKeep fun s => s.port.resetLow = false where
  full _ _ hs := hs
  request _ handles s _ hs := (handles.resetLow s).trans hs

theorem endWindow_resetLow (p : Port) (out : List Byte) (carried : LinkFlags) (k : Nat) :
    (p.endWindow out carried k).resetLow = p.resetLow := by
  unfold Port.endWindow
  split
  · show p.deliver.resetLow = _
    unfold Port.deliver
    split <;> rfl
  · rfl

theorem rise_high (bytes : List Byte) (s : State) (h : s.port.resetLow = false) : (rise bytes s).port.resetLow = false :=
  requestsKeep_high.rise (fun _ hs => hs) (fun s out carried k hs => (endWindow_resetLow s.port out carried k).trans hs)
    (fun _ hs => hs) bytes s h

theorem fall_resetLow (p : Port) : p.fall.resetLow = p.resetLow := by
  unfold Port.fall
  split
  · split
    · rfl
    · show p.fillBuffer.resetLow = _
      unfold Port.fillBuffer
      split <;> rfl
  · rfl
  · rfl

theorem fall_held {s : State} (h : HeldInv s) (low : s.port.resetLow = true) : HeldInv (s.modPort Port.fall) := by
  have keep : HeldInv (s.modPort fun p => { p with window := .ignored }) := h.withWindow low _ (.inr rfl)
  rcases h.unclocked low with e | e
  · have : s.modPort Port.fall = s.modPort fun p => { p with window := .ignored } := by
      simp [State.modPort, Port.fall, e, low]
    exact this ▸ keep
  · have : s.modPort Port.fall = s := by
      simp [State.modPort, Port.fall, e]
    exact this.symm ▸ h

theorem rise_held (bytes : List Byte) {s : State} (h : HeldInv s) (low : s.port.resetLow = true) :
    HeldInv (rise bytes s) := by
  unfold rise
  rcases h.unclocked low with e | e
  · simpa only [e] using h
  · simpa only [e] using h.withWindow low .closed (.inl rfl)

theorem commandsKeep_held : CommandsKeep HeldInv where
  full _ high _ := heldInv_of_high high
  request _ handles s takes _ := heldInv_of_high ((handles.resetLow s).trans takes.1)
  event {c n s t} lane e hs := by
    cases low : s.port.resetLow with
    | true => exact (hs.rests low).event lane e ▸ hs
    | false => exact heldInv_of_high ((event_moves lane e).frame.reset.trans low)
  fall s hs := by
    cases low : s.port.resetLow with
    | true => exact fall_held hs low
    | false => exact heldInv_of_high ((fall_resetLow s.port).trans low)
  rise bytes s hs := by
    cases low : s.port.resetLow with
    | true => exact rise_held bytes hs low
    | false => exact heldInv_of_high (rise_high bytes s low)
  powerOn contacts csnLow s _ := heldInv_of_high (comeUp_requestMoves _ _).resetLow
  hold s hs := by
    unfold holdReset
    split
    · exact hs
    · refine ⟨fun _ => rfl, fun _ => ?_⟩
      show s.port.window.heldBy = _ ∨ s.port.window.heldBy = _
      cases s.port.window
      · exact .inl rfl
      · exact .inr rfl
      · exact .inr rfl
  release contacts s hs := by
    unfold releaseReset
    split
    · exact heldInv_of_high (comeUp_requestMoves _ _).resetLow
    · exact hs

theorem heldInv_of_queue (s : State) (rest : List Instr) (h : HeldInv s) : HeldInv { s with pending := rest } where
  held low := by
    conv => lhs; rw [h.held low]
  unclocked low := h.unclocked low

/-- Settles O7: settings, catalogue and a held part, each kept by every command. -/
theorem settingsCatalogueAndHoldKept : Obligations.SettingsCatalogueAndHoldKept :=
  fun _ _ e =>
    ⟨fun hs => commandsKeep_settings.step (fun _ _ h => h) hs e,
      fun hs => commandsKeep_catalogue.step (fun _ _ h => h) hs e,
      fun hs => commandsKeep_held.step heldInv_of_queue hs e⟩

end Sys2Proof.Machine
end

section
/-!
The requests on the tool catalogue: what each judgement comes to, and the state it leaves (R145, R146, R148).
-/

namespace Sys2Proof.Machine

/-- R171: a port that takes a request has it handled. -/
theorem accept_takes {s : State} (h : s.port.takes) (f : State → State) : accept f s = f s := by
  simp only [accept, h.1, h.2, Bool.false_eq_true, if_false]

/-! ## CAT_TOOL and CAT_DROP -/

section

variable {s : State}

theorem applyCatalogue_refuse (tag code : Byte) (st : Status) :
    applyCatalogue tag code (.refuse st) s = placeReply { tag, code, status := st, payload := [] } s := rfl

/-- A byte in the range of tool numbers is not 0. -/
theorem byte_ne_zero {b : Byte} (h : 1 ≤ b.toNat) : b ≠ 0 := fun e => by
  subst e
  simp at h

theorem toNat_of_zero {b : Byte} (h : b = 0) : b.toNat = 0 := by
  subst h
  rfl

variable {number : Byte} {key : Identity} {bytes : PerLane Byte} {expects : PerLane Expectation} {c : Catalogue}

theorem judgeTool_range (h : expectationsField bytes = none ∨ 8 < number.toNat) :
    c.judgeTool number key bytes = .refuse .range := by
  unfold Catalogue.judgeTool
  split
  · rfl
  · rename_i some
    have large : Config.toolCount < number.toNat := h.resolve_left (by simp [some])
    exact if_pos large

/-- R145: a number of 1..8 is the tool's own. -/
theorem judgeTool_given (fields : expectationsField bytes = some expects) (low : 1 ≤ number.toNat)
    (high : number.toNat ≤ 8) : c.judgeTool number key bytes = c.defineTool number.toNat key expects := by
  have small : ¬Config.toolCount < number.toNat := Nat.not_lt.mpr high
  simp only [Catalogue.judgeTool, fields, small, byte_ne_zero low, if_false]

theorem judgeTool_lowest (fields : expectationsField bytes = some expects) :
    c.judgeTool 0 key bytes =
      match c.lowestUndefined with
      | none => .refuse .full
      | some k => c.defineTool k key expects := by
  simp only [Catalogue.judgeTool, fields]
  rfl

theorem lowestUndefined_none (h : ∀ i < 8, (c.tool (i + 1)).isSome = true) : c.lowestUndefined = none := by
  simp only [Catalogue.lowestUndefined, List.find?_eq_none, List.mem_map, List.mem_range]
  rintro k ⟨i, hi, rfl⟩
  simpa [Option.isSome_iff_ne_none] using h i hi

/-- The numbers from 1 on, split at one of them. -/
theorem map_succ_range_split {m k : Nat} (low : 1 ≤ k) (high : k ≤ m) :
    (List.range m).map (· + 1) = (List.range (k - 1)).map (· + 1) ++ k :: (List.range (m - k)).map (· + (k + 1)) := by
  obtain ⟨i, rfl⟩ : ∃ i, k = i + 1 := ⟨k - 1, by omega⟩
  obtain ⟨j, rfl⟩ := Nat.exists_eq_add_of_le high
  simp only [Nat.add_sub_cancel, Nat.add_sub_cancel_left, List.range_add, List.map_append, List.range_one,
    List.map_cons, List.map_nil, List.map_map, List.append_assoc, List.cons_append, List.nil_append]
  congr 2
  refine List.map_congr_left fun a _ => ?_
  simp only [Function.comp_apply]
  omega

/-- R145: the lowest undefined number, by the numbers below it. -/
theorem lowestUndefined_some {k : Nat} (low : 1 ≤ k) (high : k ≤ 8) (free : c.tool k = none)
    (below : ∀ i < k, 1 ≤ i → (c.tool i).isSome = true) : c.lowestUndefined = some k := by
  have none : ((List.range (k - 1)).map (· + 1)).find? (fun i => (c.tool i).isNone) = none := by
    simp only [List.find?_eq_none, List.mem_map, List.mem_range]
    rintro i ⟨j, hj, rfl⟩
    simpa [Option.isSome_iff_ne_none] using below (j + 1) (by omega) (by omega)
  show ((List.range 8).map (· + 1)).find? _ = _
  rw [map_succ_range_split low high, List.find?_append, none, Option.none_or, List.find?_cons_of_pos (by simp [free])]

theorem defineTool_conflict {k : Nat} {other : Tool} (h : c.keyHolder k key = some other) :
    c.defineTool k key expects = .conflict .key other.number := by
  simp only [Catalogue.defineTool, h]

theorem defineTool_ok {k : Nat} (h : ∀ t ∈ c.tools, t.number ≠ k → t.key ≠ key) :
    c.defineTool k key expects =
      { status := .ok, payload := [u8 k]
        after := some { tools := insertTool { number := k, key, expects, slots := [] } c.tools } } := by
  simp only [Catalogue.defineTool, keyHolder_none.mpr h, Catalogue.define]

theorem judgeDrop_range (h : 8 < number.toNat) : c.judgeDrop number = .refuse .range := if_pos h

theorem judgeDrop_undefined (low : 1 ≤ number.toNat) (high : number.toNat ≤ 8) (undefined : c.tool number.toNat = none) :
    c.judgeDrop number = .refuse .notFound := by
  have small : ¬Config.toolCount < number.toNat := Nat.not_lt.mpr high
  simp only [Catalogue.judgeDrop, small, byte_ne_zero low, if_false, undefined]

theorem judgeDrop_defined (low : 1 ≤ number.toNat) (high : number.toNat ≤ 8) {t : Tool}
    (found : c.tool number.toNat = some t) :
    c.judgeDrop number =
      { status := .ok, payload := [], after := some { tools := c.tools.filter fun t => t.number != number.toNat } } := by
  have small : ¬Config.toolCount < number.toNat := Nat.not_lt.mpr high
  simp only [Catalogue.judgeDrop, small, byte_ne_zero low, if_false, found]

theorem judgeDrop_all :
    c.judgeDrop 0 = { status := .ok, payload := [], after := if c.tools.isEmpty then none else some { tools := [] } } := rfl

end

/-! ## What a drop leaves -/

section

variable {c : Catalogue} {k : Nat}

/-- R148: the catalogue without the tool of a number. -/
def Catalogue.without (c : Catalogue) (k : Nat) : Catalogue := { tools := c.tools.filter fun t => t.number != k }

theorem without_tool_self : (c.without k).tool k = none := by
  rw [tool_none]
  simp [Catalogue.without]

theorem without_tool_ne {i : Nat} (h : i ≠ k) : (c.without k).tool i = c.tool i := by
  simp only [Catalogue.tool, Catalogue.without, List.find?_filter]
  congr 1
  funext t
  by_cases e : t.number = i <;> simp [e, h]

/-- R143, R148: a tool of a catalogue in order goes alone, with its slots. -/
theorem without_counts (h : Ascending c.tools) {t : Tool} (ht : t ∈ c.tools) (number : t.number = k) :
    (c.without k).tools.length + 1 = c.tools.length ∧ (c.without k).places + t.slots.length = c.places := by
  obtain ⟨ts⟩ := c
  subst number
  simp only [Catalogue.without, Catalogue.places] at *
  induction ts with
  | nil => simp at ht
  | cons u us ih =>
    obtain ⟨first, rest⟩ := List.pairwise_cons.mp h
    rcases List.mem_cons.mp ht with rfl | ht
    · have all : us.filter (fun v => v.number != t.number) = us :=
        List.filter_eq_self.mpr fun v hv => by
          have := first v hv
          simp only [bne_iff_ne, ne_eq]
          omega
      simp [all, Nat.add_comm]
    · obtain ⟨length, places⟩ := ih rest ht
      have differ : (u.number != t.number) = true := by
        have := first t ht
        simp only [bne_iff_ne, ne_eq]
        omega
      simp only [List.filter_cons, differ, if_true, List.length_cons, List.map_cons, List.sum_cons]
      omega

end

/-- Settles O54: the judgements of R145 and R148, each with the state it leaves. -/
theorem toolsAreDefinedAndDropped : Obligations.ToolsAreDefinedAndDropped := by
  intro tag number key bytes expects k other s takes
  refine ⟨?_, fun structured => ?_⟩
  · have handled : exec (.catTool tag number key bytes) s =
        .next (applyCatalogue tag 0x08 (s.catalogue.judgeTool number key bytes) s) :=
      congrArg _ (accept_takes takes _)
    simp only [handled]
    refine ⟨fun h => ?_, fun fields => ⟨fun zero full => ?_, fun chosen => ?_⟩⟩
    · rw [judgeTool_range h, applyCatalogue_refuse]
    · rw [zero, judgeTool_lowest fields, lowestUndefined_none full, applyCatalogue_refuse]
    · have defines : s.catalogue.judgeTool number key bytes = s.catalogue.defineTool k key expects := by
        obtain ⟨rfl, low, high, free, below⟩ | ⟨rfl, low, high⟩ := chosen
        · rw [judgeTool_lowest fields, lowestUndefined_some low high free below]
        · exact judgeTool_given fields low high
      rw [defines]
      refine ⟨fun held => ?_, fun fresh => ?_⟩
      · rw [defineTool_conflict held]
        rfl
      · rw [defineTool_ok fresh]
        rfl
  · have handled : exec (.catDrop tag number) s = .next (applyCatalogue tag 0x0A (s.catalogue.judgeDrop number) s) :=
      congrArg _ (accept_takes takes _)
    simp only [handled]
    refine ⟨fun h => ?_, fun low high => ⟨fun undefined => ?_, fun t found => ?_⟩, fun zero some => ?_, fun zero empty => ?_⟩
    · rw [judgeDrop_range h, applyCatalogue_refuse]
    · rw [judgeDrop_undefined low high undefined, applyCatalogue_refuse]
    · obtain ⟨ht, hn⟩ := tool_mem found
      obtain ⟨length, places⟩ := without_counts structured.ascending ht hn
      refine ⟨?_, without_tool_self, fun i hi => without_tool_ne hi, length, places, fun below => ?_⟩
      · rw [judgeDrop_defined low high found]
        rfl
      · refine lowestUndefined_some low high without_tool_self fun i lt one => ?_
        rw [← below i one lt, ← without_tool_ne (c := s.catalogue) (Nat.ne_of_lt lt)]
        rfl
    · have : s.catalogue.tools.isEmpty = false := by simpa using some
      rw [zero, judgeDrop_all, this]
      rfl
    · have : s.catalogue.tools.isEmpty = true := by simpa using empty
      rw [zero, judgeDrop_all, this]
      rfl

/-! ## CAT_SLOT -/

section

variable {c : Catalogue} {t : Tool} {x : Slot} {number : Byte} {bytes : SlotBytes}

theorem judgeSlot_range (h : slotField bytes = none ∨ number = 0 ∨ 8 < number.toNat) :
    c.judgeSlot number bytes = .refuse .range := by
  unfold Catalogue.judgeSlot
  split
  · rfl
  · rename_i some
    have out : number = 0 ∨ Config.toolCount < number.toNat := h.resolve_left (by simp [some])
    exact if_pos out

section

variable (fields : slotField bytes = some x) (low : 1 ≤ number.toNat) (high : number.toNat ≤ 8)
include fields low high

theorem judgeSlot_undefined (undefined : c.tool number.toNat = none) : c.judgeSlot number bytes = .refuse .notFound := by
  have inside : ¬(number = 0 ∨ Config.toolCount < number.toNat) :=
    not_or.mpr ⟨byte_ne_zero low, Nat.not_lt.mpr high⟩
  simp only [Catalogue.judgeSlot, fields, inside, if_false, undefined]

theorem judgeSlot_defined (found : c.tool number.toNat = some t) :
    c.judgeSlot number bytes = if c.places < Config.poolPlaces then c.appendSlot t x else .refuse .full := by
  have inside : ¬(number = 0 ∨ Config.toolCount < number.toNat) :=
    not_or.mpr ⟨byte_ne_zero low, Nat.not_lt.mpr high⟩
  simp only [Catalogue.judgeSlot, fields, inside, if_false, found]

end

theorem indexWhere_first {p : Slot → Bool} {i : Nat} {y : Slot} (found : t.slots[i]? = some y) (hy : p y = true)
    (before : ∀ j < i, ∀ z, t.slots[j]? = some z → p z = false) : t.indexWhere p = some (i + 1) := by
  have : t.slots.findIdx? p = some i := by
    obtain ⟨hi, e⟩ := List.getElem?_eq_some_iff.mp found
    refine List.findIdx?_eq_some_iff_getElem.mpr ⟨hi, by rw [e]; exact hy, fun j hj => ?_⟩
    have := before j hj t.slots[j] (List.getElem?_eq_getElem (by omega))
    simpa using this
  simp [Tool.indexWhere, this]

theorem samePosition_iff {y : Slot} :
    x.samePosition y = true ↔
      (∃ k, x.filling = .ordinal k ∧ y.filling = .ordinal k) ∧ y.lane = x.lane ∧ y.cls = x.cls ∧ y.parent = x.parent ∧
        y.leg = x.leg := by
  simp only [Slot.samePosition, Slot.pinned, Bool.and_eq_true, Bool.not_eq_true', beq_iff_eq]
  constructor
  · rintro ⟨⟨⟨⟨⟨unpinned, lane⟩, cls⟩, parent⟩, leg⟩, filling⟩
    refine ⟨?_, lane.symm, cls.symm, parent.symm, leg.symm⟩
    cases hf : x.filling with
    | pin p => simp [hf] at unpinned
    | ordinal k => exact ⟨k, rfl, by rw [← filling, hf]⟩
  · rintro ⟨⟨k, hx, hy⟩, lane, cls, parent, leg⟩
    exact ⟨⟨⟨⟨⟨by simp [hx], lane.symm⟩, cls.symm⟩, parent.symm⟩, leg.symm⟩, by rw [hx, hy]⟩

theorem samePin_iff {y : Slot} : x.samePin y = true ↔ ∃ p, x.filling = .pin p ∧ y.filling = .pin p := by
  simp only [Slot.samePin, Slot.pinned, Bool.and_eq_true, beq_iff_eq]
  constructor
  · rintro ⟨pinned, filling⟩
    cases hf : x.filling with
    | pin p => exact ⟨p, rfl, by rw [← filling, hf]⟩
    | ordinal k => simp [hf] at pinned
  · rintro ⟨p, hx, hy⟩
    exact ⟨by simp [hx], by rw [hx, hy]⟩

/-- R144, R146: the parent of a slot: the slot of its parent index, of class 01h and on its lane. -/
def Tool.parentOf (t : Tool) (x p : Slot) : Prop := t.slots[x.parent - 1]? = some p ∧ p.cls = 1 ∧ p.lane = x.lane

/-- R146 steps 8 to 10: the first slot of a tool with which a slot collides. -/
def Tool.collision (t : Tool) (x : Slot) : Option (ConflictCause × Nat) :=
  match t.indexWhere fun y => y.name == x.name with
  | some i => some (.name, i)
  | none =>
    match t.indexWhere fun y => x.samePosition y with
    | some i => some (.position, i)
    | none => (t.indexWhere fun y => x.samePin y).map fun i => (.pin, i)

/-- R146 steps 4 to 10, the collisions apart. -/
theorem slotConflict_eq (t : Tool) (x : Slot) :
    t.slotConflict x =
      if t.expects.get x.lane = .nothing then some (.laneNone, 0)
      else if x.parent ≠ 0 ∧ !t.parentFits x then some (.parent, x.parent)
      else if Config.walkDepth < t.depthOf x then some (.depth, x.parent)
      else if (x.parent == 0) == x.leg.isSome then some (.leg, 0)
      else t.collision x := rfl

theorem slotConflict_lane (h : t.expects.get x.lane = .nothing) : t.slotConflict x = some (.laneNone, 0) := if_pos h

section

variable (lane : t.expects.get x.lane ≠ .nothing)
include lane

theorem slotConflict_parent (under : x.parent ≠ 0) (none : ∀ p, ¬t.parentOf x p) :
    t.slotConflict x = some (.parent, x.parent) := by
  have unfit : t.parentFits x = false := by
    rw [Bool.eq_false_iff]
    intro fits
    obtain ⟨p, hp⟩ := (parentFits_iff t under).mp fits
    exact none p hp
  simp [Tool.slotConflict, lane, under, unfit]

theorem slotConflict_depth (under : x.parent ≠ 0) {p : Slot} (parent : t.parentOf x p) (deep : 2 ≤ p.depth) :
    t.slotConflict x = some (.depth, x.parent) := by
  have fits := (parentFits_iff t under).mpr ⟨p, parent⟩
  have depth : Config.walkDepth < t.depthOf x := by
    rw [depthOf_under t under parent.1]
    exact Nat.lt_succ_of_le deep
  simp [Tool.slotConflict, lane, fits, depth]

variable (parent : ¬(x.parent ≠ 0 ∧ ∀ p, ¬t.parentOf x p))
  (shallow : ¬(x.parent ≠ 0 ∧ ∃ p, t.parentOf x p ∧ 2 ≤ p.depth))
include parent shallow

/-- R146 steps 4 to 6 passed: the steps from 7 on decide. -/
theorem slotConflict_placed :
    t.slotConflict x = if (x.parent == 0) == x.leg.isSome then some (.leg, 0) else t.collision x := by
  have fits : ¬(x.parent ≠ 0 ∧ (!t.parentFits x) = true) := by
    rintro ⟨under, unfit⟩
    refine parent ⟨under, fun p hp => ?_⟩
    rw [(parentFits_iff t under).mpr ⟨p, hp⟩] at unfit
    cases unfit
  have depth : ¬Config.walkDepth < t.depthOf x := by
    intro deep
    by_cases root : x.parent = 0
    · rw [depthOf_root t root] at deep
      cases deep
    · refine shallow ⟨root, ?_⟩
      refine Classical.byContradiction fun none => ?_
      refine parent ⟨root, fun p hp => none ⟨p, hp, ?_⟩⟩
      rw [depthOf_under t root hp.1] at deep
      exact Nat.le_of_lt_succ deep
  rw [slotConflict_eq, if_neg lane, if_neg fits, if_neg depth]

theorem slotConflict_leg (bad : x.parent = 0 ↔ x.leg.isSome = true) : t.slotConflict x = some (.leg, 0) := by
  rw [slotConflict_placed lane parent shallow, if_pos]
  cases h : x.leg.isSome <;> simp_all

variable (good : ¬(x.parent = 0 ↔ x.leg.isSome = true))
include good

/-- R146 steps 4 to 7 passed: the collisions with the tool's slots decide. -/
theorem slotConflict_legged :
    t.slotConflict x = t.collision x := by
  rw [slotConflict_placed lane parent shallow, if_neg]
  cases h : x.leg.isSome <;> simp_all

end

theorem applyCatalogue_append_conflict {tag : Byte} {s : State} {cause : ConflictCause} {i : Nat}
    (h : t.slotConflict x = some (cause, i)) :
    applyCatalogue tag 0x09 (s.catalogue.appendSlot t x) s =
      placeReply { tag, code := 0x09, status := .conflict, payload := [cause.byte, u8 i] } s := by
  simp only [Catalogue.appendSlot, h]
  rfl

theorem applyCatalogue_append_free {tag : Byte} {s : State} (h : t.slotConflict x = none) :
    applyCatalogue tag 0x09 (s.catalogue.appendSlot t x) s =
      placeReply { tag, code := 0x09, status := .ok, payload := [u8 (t.slots.length + 1), u8 (t.depthOf x)] }
        (passDue { s with
          catalogue :=
            { tools := insertTool { t with slots := t.slots ++ [{ x with depth := t.depthOf x }] } s.catalogue.tools } }) := by
  simp only [Catalogue.appendSlot, h]
  rfl

end

/-- Settles O55: R146's checks in order, each by the equation of `slotConflict` that its hypotheses single out. -/
theorem catSlotAppends : Obligations.CatSlotAppends := by
  intro tag number bytes x t i y s takes whole
  have handled : exec (.catSlot tag number bytes) s =
      .next (applyCatalogue tag 0x09 (s.catalogue.judgeSlot number bytes) s) := by
    refine congrArg _ ((accept_takes takes _).trans ?_)
    simp only [takeCatSlot, whole, if_true]
  simp only [handled]
  refine ⟨fun h => ?_, fun fields low high => ⟨fun undefined => ?_, fun found => ⟨fun full => ?_, fun room => ?_⟩⟩⟩
  · rw [judgeSlot_range h, applyCatalogue_refuse]
  · rw [judgeSlot_undefined fields low high undefined, applyCatalogue_refuse]
  · have : ¬s.catalogue.places < Config.poolPlaces := Nat.not_lt.mpr full
    rw [judgeSlot_defined fields low high found, if_neg this, applyCatalogue_refuse]
  · have judged : s.catalogue.judgeSlot number bytes = s.catalogue.appendSlot t x :=
      (judgeSlot_defined fields low high found).trans (if_pos room)
    rw [judged]
    refine ⟨fun lane => ?_, fun lane => ⟨fun ⟨under, alone⟩ => ?_, fun ⟨under, p, parent, deep⟩ => ?_,
      fun parent shallow bad => ?_, fun parent shallow good => ?_⟩⟩
    · exact congrArg _ (applyCatalogue_append_conflict (slotConflict_lane lane))
    · exact congrArg _ (applyCatalogue_append_conflict (slotConflict_parent lane under alone))
    · exact congrArg _ (applyCatalogue_append_conflict (slotConflict_depth lane under parent deep))
    · exact congrArg _ (applyCatalogue_append_conflict (slotConflict_leg lane parent shallow bad))
    · have collisions := slotConflict_legged lane parent shallow good
      have noName (h : ∀ z ∈ t.slots, ¬z.name = x.name) : t.indexWhere (fun y => y.name == x.name) = none :=
        indexWhere_none.mpr fun z hz => by simpa using h z hz
      have noPosition (h : ∀ z ∈ t.slots, ¬x.samePosition z = true) : t.indexWhere (fun y => x.samePosition y) = none :=
        indexWhere_none.mpr fun z hz => by simpa using h z hz
      simp only [← samePosition_iff, ← samePin_iff]
      rw [Tool.collision] at collisions
      refine ⟨fun ⟨at_i, same, before⟩ => ?_, fun names ⟨at_i, same, before⟩ => ?_, fun names ⟨at_i, same, before⟩ => ?_,
        fun names positions pins depth derived => ?_⟩
      · rw [indexWhere_first at_i (by simpa using same) fun j hj z hz => by simpa using before j hj z hz] at collisions
        exact congrArg _ (applyCatalogue_append_conflict collisions)
      · rw [noName names, indexWhere_first at_i same fun j hj z hz => by simpa using before j hj z hz] at collisions
        exact congrArg _ (applyCatalogue_append_conflict collisions)
      · have positions : ∀ z ∈ t.slots, ¬x.samePosition z = true := by
          intro z _ position
          obtain ⟨p, pinned, -⟩ := samePin_iff.mp same
          obtain ⟨⟨k, unpinned, -⟩, -⟩ := samePosition_iff.mp position
          rw [pinned] at unpinned
          cases unpinned
        rw [noName names, noPosition positions,
          indexWhere_first at_i same fun j hj z hz => by simpa using before j hj z hz] at collisions
        exact congrArg _ (applyCatalogue_append_conflict collisions)
      · have noPin : t.indexWhere (fun y => x.samePin y) = none :=
          indexWhere_none.mpr fun z hz => by simpa using pins z hz
        rw [noName names, noPosition positions, noPin] at collisions
        have depth_eq : t.depthOf x = depth := by
          obtain ⟨root, rfl⟩ | ⟨under, p, parent, rfl⟩ := derived
          · exact depthOf_root t root
          · exact depthOf_under t under parent.1
        rw [applyCatalogue_append_free collisions, depth_eq]
        rfl

end Sys2Proof.Machine
end

section
/-!
Next states in one piece: updates of one lane as one column replaced, a transition as its notice and what the naming unit
makes of it (R19, R153), and what commutes with the naming unit's work.
-/

namespace Sys2Proof.Machine

/-! ## One column replaced -/

section

variable (s : State) (m n : Lane) (c d : Column)

@[simp] theorem withColumn_withColumn : (s.withColumn n c).withColumn n d = s.withColumn n d := by
  simp [State.withColumn]

@[simp] theorem withColumn_self : s.withColumn n (s.col n) = s := by simp [State.withColumn, State.col]

@[simp] theorem withColumn_converter : (s.withColumn n c).converter = s.converter := rfl
@[simp] theorem withColumn_catalogue : (s.withColumn n c).catalogue = s.catalogue := rfl
@[simp] theorem withColumn_naming : (s.withColumn n c).naming = s.naming := rfl
@[simp] theorem withColumn_pending : (s.withColumn n c).pending = s.pending := rfl
@[simp] theorem withColumn_columns : (s.withColumn n c).columns = s.columns.set n c := rfl

@[simp] theorem withColumn_col_ne (h : m ≠ n) : (s.withColumn n c).col m = s.col m := PerLane.get_set_ne _ _ h

@[simp] theorem modConverter_withColumn (f : Converter → Converter) :
    (s.modConverter f).withColumn n c = (s.withColumn n c).modConverter f := rfl
@[simp] theorem modTable_withColumn (f : DeviceTable → DeviceTable) :
    (s.modTable f).withColumn n c = (s.withColumn n c).modTable f := rfl
@[simp] theorem modPort_withColumn (f : Port → Port) :
    (s.modPort f).withColumn n c = (s.withColumn n c).modPort f := rfl
@[simp] theorem raise_withColumn (x : Notice) : (raise x s).withColumn n c = raise x (s.withColumn n c) := rfl
@[simp] theorem placeReply_withColumn (r : Reply) :
    (placeReply r s).withColumn n c = placeReply r (s.withColumn n c) := rfl

/-- Every update of a block of one lane is one column replaced. -/
theorem updates_eq :
    (∀ f, s.modCol n f = s.withColumn n (f (s.col n))) ∧
    (∀ f, s.modCtl n f = s.withColumn n { s.col n with ctl := f (s.col n).ctl }) ∧
    (∀ f, s.modSupervisor n f = s.withColumn n { s.col n with supervisor := f (s.col n).supervisor }) ∧
    (∀ f, s.modEngine n f = s.withColumn n { s.col n with engine := f (s.col n).engine }) ∧
    (∀ f, s.modArbiter n f = s.withColumn n { s.col n with arbiter := f (s.col n).arbiter }) ∧
    (∀ x, s.setSlot n x = s.withColumn n { s.col n with slot := x }) ∧
    (∀ f, s.modWalk n f = s.withColumn n { s.col n with walk := f (s.col n).walk }) ∧
    ∀ f, s.modRoll n f = s.withColumn n { s.col n with roll := f (s.col n).roll } :=
  ⟨fun _ => rfl, fun _ => rfl, fun _ => rfl, fun _ => rfl, fun _ => rfl, fun _ => rfl, fun _ => rfl, fun _ => rfl⟩

end

/-! ## Transitions -/

/-- The lane states that two states have in common. -/
def SameStates (s t : State) : Prop := ∀ m, t.laneState m = s.laneState m

theorem SameStates.refl (s : State) : SameStates s s := fun _ => rfl

theorem SameStates.ready {s t : State} (h : SameStates s t) : t.readySet = s.readySet :=
  PerLane.ext_get fun m => by
    have := h m
    simp only [State.laneState, State.col] at this
    simp [State.readySet, this]

theorem anyBringingUp_iff (s : State) : s.anyBringingUp = true ↔ ∃ n, (s.laneState n).bringingUp = true := by
  simp only [State.anyBringingUp, List.any_eq_true, PerLane.mem_toList]
  constructor
  · rintro ⟨_, ⟨n, rfl⟩, h⟩
    exact ⟨n, h⟩
  · rintro ⟨n, h⟩
    exact ⟨_, ⟨n, rfl⟩, h⟩

theorem SameStates.bringingUp {s t : State} (h : SameStates s t) : t.anyBringingUp = s.anyBringingUp := by
  rw [Bool.eq_iff_iff, anyBringingUp_iff, anyBringingUp_iff]
  exact exists_congr fun m => by rw [h m]

theorem causedByTransition_congr {s t u v : State} (before : SameStates s u) (after : SameStates t v) :
    causedByTransition u v = causedByTransition s t := by
  simp only [causedByTransition, before.bringingUp, before.ready, after.bringingUp, after.ready]

/-- Operations on a lane that leave its state leave every lane's. -/
theorem LaneMoves.sameStates {n : Lane} {s t : State} (h : LaneMoves n s t) (state : t.laneState n = s.laneState n) :
    SameStates s t := fun m => by
  by_cases e : m = n
  · exact e ▸ state
  · exact congrArg (fun c => c.ctl.state) (h.frame.others m e)

/-- R19, R153: a transition from a state reached with the lane states of `s`. -/
theorem transition_told {n : Lane} {s u : State} (states : SameStates s u) (entered : LaneState) (why : Reason)
    (carried : Option (SupplyClass × Int)) :
    transition n entered why carried u =
      toldNaming s (raise
        (.laneState n { state := entered, reason := why, count := 1, signature := carried, powerGood := none })
        (u.withColumn n { u.col n with ctl := { (u.col n).ctl with state := entered } })) := by
  have caused : causedByTransition u (u.modCtl n fun c => { c with state := entered }) =
      causedByTransition s (raise
        (.laneState n { state := entered, reason := why, count := 1, signature := carried, powerGood := none })
        (u.modCtl n fun c => { c with state := entered })) := causedByTransition_congr states fun _ => rfl
  simp only [transition, toldNaming, caused]
  rfl

/-- A transition right after operations on its lane that leave the lane's state. -/
theorem transition_moved {n : Lane} {s u : State} (moves : LaneMoves n s u) (state : u.laneState n = s.laneState n)
    (entered : LaneState) (why : Reason) (carried : Option (SupplyClass × Int)) :
    transition n entered why carried u =
      toldNaming s (raise
        (.laneState n { state := entered, reason := why, count := 1, signature := carried, powerGood := none })
        (u.withColumn n { u.col n with ctl := { (u.col n).ctl with state := entered } })) :=
  transition_told (moves.sameStates state) entered why carried

/-! ## What the naming unit's work leaves alone -/

section

variable (s : State) (m : Lane)

@[simp] theorem namingPass_columns : (namingPass s).columns = s.columns := rfl
@[simp] theorem namingPass_settings : (namingPass s).settings = s.settings := rfl
@[simp] theorem namingPass_converter : (namingPass s).converter = s.converter := rfl
@[simp] theorem namingPass_catalogue : (namingPass s).catalogue = s.catalogue := rfl

@[simp] theorem passDue_columns : (passDue s).columns = s.columns := by unfold passDue; split <;> rfl
@[simp] theorem passDue_settings : (passDue s).settings = s.settings := by unfold passDue; split <;> rfl
@[simp] theorem passDue_converter : (passDue s).converter = s.converter := by unfold passDue; split <;> rfl
@[simp] theorem passDue_catalogue : (passDue s).catalogue = s.catalogue := by unfold passDue; split <;> rfl
@[simp] theorem passDue_col : (passDue s).col m = s.col m := by simp [State.col]
@[simp] theorem passDue_owed : (passDue s).port.owed = s.port.owed := by unfold passDue; split <;> rfl

variable (t : State)

@[simp] theorem toldNaming_columns : (toldNaming s t).columns = t.columns := by unfold toldNaming; split <;> simp
@[simp] theorem toldNaming_settings : (toldNaming s t).settings = t.settings := by unfold toldNaming; split <;> simp
@[simp] theorem toldNaming_converter : (toldNaming s t).converter = t.converter := by unfold toldNaming; split <;> simp
@[simp] theorem toldNaming_catalogue : (toldNaming s t).catalogue = t.catalogue := by unfold toldNaming; split <;> simp
@[simp] theorem toldNaming_col : (toldNaming s t).col m = t.col m := by simp [State.col]
@[simp] theorem toldNaming_owed : (toldNaming s t).port.owed = t.port.owed := by unfold toldNaming; split <;> simp

end

/-! ## Work that the naming unit does not see -/

section

variable {t : State} {n : Lane} {c : Column} (ctl : c.ctl = (t.col n).ctl)
include ctl

theorem withColumn_sameStates : SameStates t (t.withColumn n c) := fun m => by
  by_cases e : m = n
  · subst e
    simp [State.laneState, ctl]
  · simp [State.laneState, e]

/-- A pass reads of a lane's column the controller alone. -/
theorem decision_withColumn : (t.withColumn n c).decision = t.decision := by
  have ready := (withColumn_sameStates ctl).ready
  have classes (x : Tool) : (t.withColumn n c).classesPass x = t.classesPass x := by
    simp only [State.classesPass, ready]
    congr 1
    funext m
    by_cases e : m = n
    · subst e
      simp [ctl]
    · simp [e]
  have view : (t.withColumn n c).namingView = t.namingView := by simp only [State.namingView, ready, withColumn_table]
  simp only [State.decision, ready, view, withColumn_catalogue, classes]

theorem namingPass_withColumn : namingPass (t.withColumn n c) = (namingPass t).withColumn n c := by
  have ready := (withColumn_sameStates ctl).ready
  simp only [namingPass, decision_withColumn ctl, State.writeNames, ready]
  rfl

theorem passDue_withColumn : passDue (t.withColumn n c) = (passDue t).withColumn n c := by
  unfold passDue
  rw [(withColumn_sameStates ctl).bringingUp]
  split
  · rfl
  · exact namingPass_withColumn ctl

/-- Line work of a lane commutes with what the naming unit makes of a transition. -/
theorem toldNaming_withColumn (s : State) : toldNaming s (t.withColumn n c) = (toldNaming s t).withColumn n c := by
  unfold toldNaming
  rw [causedByTransition_congr (SameStates.refl s) (withColumn_sameStates ctl)]
  split
  · exact passDue_withColumn ctl
  · rfl

end

/-! ## The line arbiter's grant (R84) -/

/-- R84: what the arbiter's grant makes of a column. -/
def Column.lineGranted (c : Column) (g : Settings) (n : Lane) : Column :=
  if c.engine.phase = .idle then
    match c.arbiter.choice with
    | none => c
    | some (q, r) => { c with engine := c.engine.granted g n q r, arbiter := c.arbiter.granted q }
  else c

theorem lineGranted_ctl (c : Column) (g : Settings) (n : Lane) : (c.lineGranted g n).ctl = c.ctl := by
  unfold Column.lineGranted
  split
  · split <;> rfl
  · rfl

theorem lineGrant_eq (n : Lane) (s : State) : lineGrant n s = s.withColumn n ((s.col n).lineGranted s.settings n) := by
  by_cases idle : (s.col n).engine.phase = .idle
  · cases choice : (s.col n).arbiter.choice with
    | none => simp [lineGrant, Column.lineGranted, idle, choice]
    | some x =>
      simp only [lineGrant, Column.lineGranted, idle, if_true, choice, beginAttempt, updates_eq, withColumn_withColumn,
        withColumn_col, withColumn_settings]
      rfl
  · simp [lineGrant, Column.lineGranted, idle]

/-- R84: an idle engine is granted the procedure's request where the transfer slot asks for nothing. -/
theorem lineGranted_procedure {c : Column} (idle : c.engine.phase = .idle) {r : LineRequest}
    (procedure : c.arbiter.procedure = some r) (transfer : c.arbiter.transfer = none) (g : Settings) (n : Lane) :
    c.lineGranted g n =
      { c with
        engine := c.engine.granted g n .procedure r
        arbiter := { procedure := none, transfer := none, lastGrant := .procedure } } := by
  simp [Column.lineGranted, idle, LineArbiter.choice, procedure, transfer, LineArbiter.granted]

theorem lineGranted_busy {c : Column} (busy : c.engine.phase ≠ .idle) (g : Settings) (n : Lane) :
    c.lineGranted g n = c := if_neg busy

/-- R84, R153: the arbiter's grant after a transition is made before the naming unit is told, and with the same outcome. -/
theorem lineGrant_toldNaming (n : Lane) (s t : State) :
    lineGrant n (toldNaming s t) = toldNaming s (lineGrant n t) := by
  rw [lineGrant_eq, lineGrant_eq, toldNaming_withColumn (lineGranted_ctl _ _ _), toldNaming_col, toldNaming_settings]

theorem lineGrant_raise (n : Lane) (x : Notice) (t : State) : lineGrant n (raise x t) = raise x (lineGrant n t) := by
  rw [lineGrant_eq, lineGrant_eq]
  rfl

end Sys2Proof.Machine
end

section
/-!
The entries into the lane states, each as its column, its notice and what the naming unit makes of it; the contact events
and the timers outside power, and the lane control requests (R2 to R18).
-/

namespace Sys2Proof.Machine

/-! ## Entries into the lane states -/

section

variable {n : Lane} {s u : State} (moves : LaneMoves n s u) (state : u.laneState n = s.laneState n) (why : Reason)
include moves state

theorem enterSettling_told :
    enterSettling n why u =
      toldNaming s (raise (stateNotice n .settling why) (u.withColumn n
        { u.col n with
          ctl := { (u.col n).ctl with state := .settling, settle := .running u.settings.mateSettle }
          roll := { (u.col n).roll with used := 0 } })) := by
  refine (transition_moved (modRoll_moves (modCtl_moves moves _) _) ?_ .settling why none).trans ?_
  · simpa [State.laneState] using state
  · simp [updates_eq, stateNotice]

theorem enterParting_told :
    enterParting n u =
      toldNaming s (raise (stateNotice n .parting .opened) (u.withColumn n
        { u.col n with
          ctl := { (u.col n).ctl with state := .parting, settle := .running u.settings.mateSettle } })) := by
  refine (transition_moved (modCtl_moves moves _) ?_ .parting .opened none).trans ?_
  · simpa [State.laneState] using state
  · simp [updates_eq, stateNotice]

/-- R24, R30: a new series' first point is a P1. -/
theorem enterSignature_told :
    enterSignature n why u =
      toldNaming s (raise (stateNotice n .signature why)
        { u.withColumn n
            { u.col n with
              ctl := { (u.col n).ctl with state := .signature, record := { SignatureRecord.cleared with attempts := 1 } } } with
          converter := u.converter.place (.point .p1) n }) := by
  refine (transition_moved (placePoint_moves (modCtl_moves moves _)) ?_ .signature why none).trans ?_
  · simpa [State.laneState, placePoint] using state
  · simp [placePoint, updates_eq, stateNotice]
    rfl

theorem enterAwaitGrant_told (carried : Option (SupplyClass × Int)) :
    enterAwaitGrant n why carried u =
      toldNaming s (raise
        (.laneState n { state := .awaitGrant, reason := why, count := 1, signature := carried, powerGood := none })
        (u.withColumn n
          { u.col n with
            ctl := { (u.col n).ctl with state := .awaitGrant, grantWindow := .running 500, mark := .fresh } })) := by
  refine (transition_moved (modCtl_moves moves _) ?_ .awaitGrant why carried).trans ?_
  · simpa [State.laneState] using state
  · simp [updates_eq, Config.grantWindow]

theorem enterPowering_told (carried : Option (SupplyClass × Int)) (opened : (u.col n).supervisor.switch = .opened) :
    enterPowering n why carried u =
      toldNaming s (raise
        (.laneState n { state := .powering, reason := why, count := 1, signature := carried, powerGood := none })
        (u.withColumn n
          { u.col n with
            ctl := { (u.col n).ctl with state := .powering }
            supervisor := { (u.col n).supervisor with
              switch := .closed, phase := .inrush, cls := (u.col n).ctl.record.cls, inrush := .running 50 } })) := by
  refine (transition_moved (modSupervisor_moves moves _) ?_ .powering why carried).trans ?_
  · simpa [State.laneState] using state
  · simp [updates_eq, Supervisor.switchOn, opened, Config.inrushWindow]

theorem enterWalking_told :
    enterWalking n why u =
      toldNaming s (raise (stateNotice n .walking why) (u.withColumn n
        { u.col n with
          ctl := { (u.col n).ctl with state := .walking, hold := .stopped }
          arbiter := { (u.col n).arbiter with procedure := some (releaseRequest 31) }
          walk := WalkUnit.started })) := by
  refine (transition_moved (startWalk_moves (modCtl_moves moves _)) ?_ .walking why none).trans ?_
  · simpa [State.laneState, startWalk, placeRequest] using state
  · simp [startWalk, placeRequest, updates_eq, stateNotice, Config.allHandle]

theorem enterFault_told (code : FaultCode) (current voltage : Code) :
    enterFault n code current voltage u =
      toldNaming s (raise (stateNotice n .fault .faulted) (raise (.laneFault n { code, current, voltage })
        (u.withColumn n { u.col n with ctl := { (u.col n).ctl with state := .fault, fault := code } }))) := by
  refine (transition_moved (.raise (modCtl_moves moves _) _) ?_ .fault .faulted none).trans ?_
  · simpa [State.laneState] using state
  · simp [updates_eq, stateNotice]

end

/-! ## Contact events (R2 to R6, R15, R17, R18) -/

section

variable {n : Lane} {s : State} {contact : Contact}

theorem resistance_reads {ohms : Nat} (h : ohms ≤ 60000) : (Contact.resistance ohms).reads = .mated := if_pos h

theorem unfollowed {s : State} {n : Lane} (h : s.converter.blanks n = true ∨ s.port.resetLow = true) :
    s.follows n = false := by
  rcases h with h | h <;> simp [State.follows, h]

theorem followed (blank : s.converter.blanks n = false) (high : s.port.resetLow = false) : s.follows n = true := by
  simp [State.follows, blank, high]

theorem execMateEvent_unfollowed (h : s.follows n = false) : execMateEvent n contact s = .next s := by
  simp [execMateEvent, h]

theorem execOpenEvent_unfollowed (h : s.follows n = false) : execOpenEvent n contact s = .next s := by
  simp [execOpenEvent, h]

theorem execMateEvent_taken (reads : contact.reads = .mated) (reading : (s.col n).ctl.reading = .opened)
    (follows : s.follows n = true) : execMateEvent n contact s = .next (mateAction n (setReading n .mated s)) := by
  simp [execMateEvent, reads, reading, follows]

theorem execOpenEvent_taken (reads : contact.reads = .opened) (reading : (s.col n).ctl.reading = .mated)
    (follows : s.follows n = true) : execOpenEvent n contact s = .next (openAction n (setReading n .opened s)) := by
  simp [execOpenEvent, reads, reading, follows]

/-- R2: the state after the reading is stored. -/
theorem setReading_eq (x : Reading) :
    setReading n x s = s.withColumn n { s.col n with ctl := { (s.col n).ctl with reading := x } } := by
  simp [setReading, updates_eq]

@[simp] theorem setReading_laneState (x : Reading) : (setReading n x s).laneState n = s.laneState n := by
  simp [setReading, State.laneState]

theorem mateAction_settles (x : Reading) (h : s.laneState n = .empty ∨ s.laneState n = .parting) :
    mateAction n (setReading n x s) = enterSettling n .mated (setReading n x s) := by
  unfold mateAction
  rcases h with h | h <;> simp [h]

theorem mateAction_keeps {u : State} (empty : u.laneState n ≠ .empty) (parting : u.laneState n ≠ .parting) :
    mateAction n u = u := by
  unfold mateAction
  split <;> simp_all

end

/-- Settles O10, state by state. -/
theorem contactEventsOutsidePower : Obligations.ContactEventsOutsidePower := by
  intro n ohms contact s
  refine ⟨fun h => ⟨execMateEvent_unfollowed (unfollowed h), execOpenEvent_unfollowed (unfollowed h)⟩, fun blank high =>
    ⟨fun small opened => ?_, fun reads mated => ?_⟩⟩
  · have taken := execMateEvent_taken (resistance_reads small) opened (followed blank high)
    simp only [exec, taken, Host.Outcome.next.injEq]
    refine ⟨fun h => ?_, fun empty parting => ?_⟩
    · rw [mateAction_settles _ h, enterSettling_told (setReading_moves .refl _) (by simp), setReading_eq]
      simp
    · rw [mateAction_keeps (by simpa) (by simpa), setReading_eq]
  · have taken := execOpenEvent_taken reads mated (followed blank high)
    have moves : LaneMoves n s (setReading n .opened s) := setReading_moves .refl _
    simp only [exec, taken, Host.Outcome.next.injEq, openAction, setReading_laneState]
    refine ⟨fun h => ?_, fun h => ?_, fun h => ?_, fun h => ?_, fun h => ?_, fun h => ?_⟩
    · rcases h with h | h <;> simp [h, setReading_eq]
    · simp only [h]
      rw [transition_moved (modCtl_moves moves _) (by simp [State.laneState, setReading])]
      simp [setReading_eq, updates_eq, stateNotice]
    · simp only [h]
      rw [enterParting_told (withdrawJobs_moves (modCtl_moves moves _)) (by simp [State.laneState, setReading, withdrawJobs])]
      simp [withdrawJobs, setReading_eq, updates_eq]
      rfl
    · simp only [h]
      rw [enterParting_told (modCtl_moves moves _) (by simp [State.laneState, setReading])]
      simp [setReading_eq, updates_eq]
    · simp [h, setReading_eq, updates_eq]
    · simp only [h]
      rw [enterParting_told moves (by simp)]
      simp [setReading_eq]

/-! ## Timers of the lane controller (R3, R5, R9, R14, R15) -/

/-- R129: a raise of ROSTER on the state is one in the notice set. -/
theorem raiseRoster_eq (n : Lane) (a b c : Nat) (s : State) :
    raiseRoster n a b c s = s.modPort fun p => { p with notices := rosterIn n a b c p.notices } := by
  unfold raiseRoster rosterIn
  split
  · rfl
  · simp [raise, satAdd, Config.byteCount]

/-- Settles O12: the three timers' expiries. -/
theorem laneTimersExpire : Obligations.LaneTimersExpire := by
  intro n s
  refine ⟨fun running => ⟨fun h => ?_, fun h => ?_⟩, fun running => ?_, fun running => ?_⟩
  · have state : (s.modCtl n fun c => { c with settle := .stopped }).laneState n = s.laneState n := by simp [State.laneState]
    simp only [exec, execSettleTimerExpiry, running, if_true, settleExpired, state, h]
    rw [enterSignature_told (modCtl_moves .refl _) state]
    simp [updates_eq]
  · have state : (s.modCtl n fun c => { c with settle := .stopped }).laneState n = s.laneState n := by simp [State.laneState]
    simp only [exec, execSettleTimerExpiry, running, if_true, settleExpired, state, h]
    rw [transition_moved (modCtl_moves .refl _) state]
    simp [updates_eq, stateNotice]
  · simp [exec, execGrantWindowExpiry, running, updates_eq]
  · simp only [exec, execRemateHoldExpiry, running, if_true, removeAway, removeCounted, raiseRoster_eq, updates_eq]
    simp [DeviceTable.remove, State.modTable, State.modPort, DeviceTable.awayOf]

/-- Settles O13: the walk's opening RELEASE is placed, and granted where the engine is idle. -/
theorem bootWaitExpiryStartsWalk : Obligations.BootWaitExpiryStartsWalk := by
  intro n s running alone
  have state : (s.modCtl n fun c => { c with bootWait := .stopped }).laneState n = s.laneState n := by simp [State.laneState]
  simp only [exec, execBootWaitExpiry, running, if_true]
  rw [enterWalking_told (modCtl_moves .refl _) state, lineGrant_toldNaming, lineGrant_raise, lineGrant_eq]
  simp only [updates_eq, withColumn_col, withColumn_withColumn, withColumn_settings, Column.lineGranted, alone]
  by_cases idle : (s.col n).engine.phase = .idle
  · simp only [idle, if_true, LineArbiter.choice, LineArbiter.granted]
    rfl
  · simp only [idle, if_false]
    rfl

/-! ## Lane control requests (R5, R7, R17) -/

section

variable {tag lane : Byte} {s : State}

theorem laneField_some {n : Lane} (h : lane.toNat = n.number) : laneField lane = some n := by
  cases n <;> simp [laneField, h, Lane.number]

theorem laneField_none (h : lane = 0 ∨ 4 < lane.toNat) : laneField lane = none := by
  unfold laneField
  split <;> first | rfl | (rcases h with rfl | h <;> simp_all)

theorem laneControl_range (h : laneField lane = none) (taken : LaneState) (act : Lane → State → State) :
    laneControl tag lane taken act s = placeReply { tag, code := 0x03, status := .range, payload := [] } s := by
  simp only [laneControl, h]
  rfl

theorem laneControl_refused {n : Lane} (h : laneField lane = some n) {taken : LaneState} (other : s.laneState n ≠ taken)
    (act : Lane → State → State) :
    laneControl tag lane taken act s = placeReply { tag, code := 0x03, status := .refusedState, payload := [] } s := by
  simp only [laneControl, h, if_neg other]
  rfl

theorem laneControl_taken {n : Lane} (h : laneField lane = some n) {taken : LaneState} (own : s.laneState n = taken)
    (act : Lane → State → State) :
    laneControl tag lane taken act s = placeReply { tag, code := 0x03, status := .ok, payload := [] } (act n s) := by
  simp only [laneControl, h, if_pos own]
  rfl

theorem execGrant_takes (takes : s.port.takes) :
    exec (.grant tag lane) s = .next (laneControl tag lane .awaitGrant grantLane s) := congrArg _ (accept_takes takes _)

theorem execRewalk_takes (takes : s.port.takes) :
    exec (.rewalk tag lane) s = .next (laneControl tag lane .ready rewalkLane s) := congrArg _ (accept_takes takes _)

theorem execClear_takes (takes : s.port.takes) :
    exec (.clear tag lane) s = .next (laneControl tag lane .fault clearLane s) := congrArg _ (accept_takes takes _)

end

/-- Settles O14. -/
theorem grantAndClearAreTaken : Obligations.GrantAndClearAreTaken := by
  intro tag lane n s field takes
  refine ⟨fun awaits opened => ⟨fun fresh => ?_, fun stale => ?_⟩, fun faulted => ?_⟩
  · rw [execGrant_takes takes, laneControl_taken field awaits]
    have opened : ((s.modCtl n fun c => { c with grantWindow := .stopped }).col n).supervisor.switch = .opened := by
      simpa using opened
    have granted : grantLane n s = enterPowering n .granted none
        (s.modCtl n fun c => { c with grantWindow := .stopped }) := by
      simp only [grantLane, fresh]
    rw [granted, enterPowering_told (modCtl_moves .refl _) (by simp [State.laneState]) .granted none opened]
    simp [updates_eq, stateNotice]
  · rw [execGrant_takes takes, laneControl_taken field awaits]
    have granted : grantLane n s = enterSignature n .granted
        (s.modCtl n fun c => { c with grantPending := c.record.cls }) := by
      simp only [grantLane, stale]
    rw [granted, enterSignature_told (modCtl_moves .refl _) (by simp [State.laneState])]
    simp [updates_eq]
  · rw [execClear_takes takes, laneControl_taken field faulted, clearLane,
      enterSettling_told (modCtl_moves .refl _) (by simp [State.laneState])]
    simp [updates_eq]

/-- Settles O16: each refusal is a reply alone. -/
theorem laneControlIsRefused : Obligations.LaneControlIsRefused := by
  intro tag lane action s takes
  refine ⟨fun out => ?_, fun out => ?_, fun n number => ?_⟩
  · have unknown : takeLaneControl tag lane action s = answer tag 0x03 .range [] s := by
      unfold takeLaneControl
      split <;> first | rfl | (rcases out with rfl | out <;> simp_all)
    have long : ¬([lane, action] : List Byte).length < (2 : Byte).toNat := by simp
    show (if ([lane, action] : List Byte).length < (2 : Byte).toNat then setShort s
      else accept (takeRequest 0x03 tag [lane, action]) s) = _
    rw [if_neg long, accept_takes takes]
    exact unknown
  · have none := laneField_none out
    rw [execGrant_takes takes, execRewalk_takes takes, execClear_takes takes, laneControl_range none, laneControl_range none,
      laneControl_range none]
    exact ⟨rfl, rfl, rfl⟩
  · have field := laneField_some number
    rw [execGrant_takes takes, execRewalk_takes takes, execClear_takes takes]
    exact ⟨fun other => congrArg _ (laneControl_refused field other _),
      fun other => congrArg _ (laneControl_refused field other _),
      fun other => congrArg _ (laneControl_refused field other _)⟩

end Sys2Proof.Machine
end

section
/-!
Leaving the powered states and READY in one piece (R11, R13, R14): what ends with a lane's work, the table's entries turned
AWAY, the re-mate hold; and the statements on the faults and the open event of a powered lane.
-/

namespace Sys2Proof.Machine

/-! ## What ends with a lane's work -/

section

variable (n : Lane) (s : State)

/-- R89: a read in flight ends LANE_GONE. -/
theorem abortRead_eq :
    abortRead n s =
      (s.withColumn n { s.col n with slot := .free }).modPort fun p =>
        { p with
          owed := if (s.col n).slot = .free then p.owed else p.owed.set n none
          replies := p.replies ++ (s.col n).goneReplies (p.owed.get n) } := by
  unfold abortRead Column.goneReplies
  split
  · rename_i free
    have : ({ s.col n with slot := .free } : Column) = s.col n := by rw [← free]
    rw [this, withColumn_self]
    simp [free, State.modPort]
  · rename_i r busy
    unfold endRead
    cases owed : s.port.owed.get n <;> simp [busy, owed, updates_eq, State.modPort, placeReply]

/-- R86: an abort of a lane's line work. -/
theorem abort_eq (e : Engine) :
    e.abort =
      if e.phase = .idle ∨ e.phase = .closing then { e with inFlight := none, lastFailed := none }
      else { e with phase := .closing, inFlight := none, lastFailed := none, lck := .released, lda := .released } := by
  unfold Engine.abort
  split <;> rename_i phase <;> simp [phase, Engine.beginClosing]

theorem abortLine_eq :
    abortLine n s = s.withColumn n { s.col n with engine := (s.col n).engine.abort, arbiter := LineArbiter.reset } := by
  simp [abortLine, updates_eq]

/-- R110, R111: the walk unit after an abort of a walk that may run. -/
def WalkUnit.halted (w : WalkUnit) : WalkUnit := if w.phase = .idle then w else w.aborted

theorem abortWalk_eq :
    abortWalk n s =
      (s.withColumn n { s.col n with walk := (s.col n).walk.halted }).modPort fun p =>
        { p with notices := (s.col n).abortNotices n p.notices } := by
  unfold abortWalk WalkUnit.halted Column.abortNotices
  split
  · exact (withColumn_self s n).symm
  · simp [raiseRoster_eq, updates_eq]

theorem unpowered_eq (c : Column) :
    c.unpowered =
      { ctl := { c.ctl with bootWait := .stopped, rewalkWaiting := false }
        supervisor := Supervisor.reset
        engine := c.engine.abort
        arbiter := LineArbiter.reset
        slot := .free
        walk := c.walk.halted
        roll := c.roll.stopped } := by
  simp only [Column.unpowered, abort_eq]
  rfl

/-- R51: every opening leaves the supervisor at rest. -/
theorem switchOff_eq (v : Supervisor) : v.switchOff = Supervisor.reset := rfl

/-- R13 steps 1 to 6. -/
theorem leavePowered_eq :
    leavePowered n s =
      { s.withColumn n (s.col n).unpowered with
        converter := s.converter.withdraw n
        port := { s.port with
          owed := if (s.col n).slot = .free then s.port.owed else s.port.owed.set n none
          replies := s.port.replies ++ (s.col n).goneReplies (s.port.owed.get n)
          notices := (s.col n).abortNotices n s.port.notices } } := by
  simp [leavePowered, abortRead_eq, abortLine_eq, stopRoll, abortWalk_eq, openSwitch, updates_eq, unpowered_eq,
    switchOff_eq, Column.goneReplies, Column.abortNotices]
  rfl

/-- R11: what an exit from READY for WALKING ends. -/
theorem leaveReady_eq :
    leaveReady n s =
      (s.withColumn n
          { s.col n with
            ctl := { (s.col n).ctl with rewalkWaiting := false }
            engine := (s.col n).engine.abort
            arbiter := LineArbiter.reset
            slot := .free
            roll := (s.col n).roll.stopped }).modPort fun p =>
        { p with
          owed := if (s.col n).slot = .free then p.owed else p.owed.set n none
          replies := p.replies ++ (s.col n).goneReplies (p.owed.get n) } := by
  simp [leaveReady, abortRead_eq, abortLine_eq, stopRoll, updates_eq, Column.goneReplies]

end

/-! ## The table and the hold (R14, R119, R120) -/

section

variable (t : DeviceTable) (n : Lane)

theorem mem_ofLane {t : DeviceTable} {n : Lane} {e : Entry} : e ∈ t.ofLane n ↔ e ∈ t.entries ∧ e.key.lane = n := by
  simp [DeviceTable.ofLane]

theorem bound_iff (e : Entry) : e.bound = true ↔ e.state ≠ .away := by
  cases h : e.state <;> simp [Entry.bound, h]

theorem bound_eq (e : Entry) : e.bound = (e.state != .away) := by
  cases h : e.state <;> simp [Entry.bound, h]

/-- R119, R120: turning AWAY, with the entries' states told apart as the statements do. -/
theorem turnAway_table :
    t.turnAway n =
      { entries := t.entries.map fun e =>
          if e.key.lane = n ∧ e.state ≠ .away then { e with state := .away, name := none, slotRef := none, miss := 0 }
          else e
        away := t.away ++ ((t.ofLane n).filter fun e => e.state != .away).map (·.key) } := by
  simp only [DeviceTable.turnAway, DeviceTable.leaving, bound_iff, Entry.turnedAway]
  rw [List.filter_congr fun e _ => bound_eq e]

/-- R119: what an entry of a lane is once the lane's entries have turned AWAY. -/
def Entry.leftBy (n : Lane) (e : Entry) : Entry := if e.key.lane = n ∧ e.bound then e.turnedAway else e

@[simp] theorem leftBy_key (e : Entry) : (e.leftBy n).key = e.key := by unfold Entry.leftBy; split <;> rfl

theorem leftBy_state {n : Lane} {e : Entry} (h : e.key.lane = n) : (e.leftBy n).state = .away := by
  unfold Entry.leftBy
  split
  · rfl
  · rename_i kept
    have : ¬e.bound = true := fun b => kept ⟨h, b⟩
    simpa [bound_iff] using this

theorem turnAway_entries : (t.turnAway n).entries = t.entries.map (Entry.leftBy n) := rfl

/-- Once a lane's entries have turned AWAY, its AWAY entries are all of them. -/
theorem awayOf_turnAway : (t.turnAway n).awayOf n = (t.ofLane n).map (·.key) := by
  simp only [DeviceTable.awayOf, DeviceTable.ofLane, turnAway_entries, List.filter_map, List.filter_filter, List.map_map]
  have filters : t.entries.filter (fun a => (((fun e => e.state == .away) ∘ Entry.leftBy n) a &&
      ((fun e => e.key.lane == n) ∘ Entry.leftBy n) a)) = t.entries.filter fun e => e.key.lane == n := by
    refine List.filter_congr fun e _ => ?_
    by_cases h : e.key.lane = n
    · simp [h, leftBy_state h]
    · simp [h]
  rw [filters]
  refine List.map_congr_left fun e _ => ?_
  simp

theorem ofLane_contains {t : DeviceTable} {n : Lane} {e : Entry} (he : e ∈ t.entries) :
    ((t.ofLane n).map (·.key)).contains e.key = (e.key.lane == n) := by
  rw [Bool.eq_iff_iff, List.contains_iff_mem, beq_iff_eq, List.mem_map]
  constructor
  · rintro ⟨d, hd, same⟩
    exact same ▸ (mem_ofLane.mp hd).2
  · exact fun h => ⟨e, mem_ofLane.mpr ⟨he, h⟩, rfl⟩

/-- R14: with a hold of 0 the lane's entries go, those AWAY before among them. -/
theorem remove_turnAway :
    (t.turnAway n).remove ((t.ofLane n).map (·.key)) =
      { entries := t.entries.filter fun e => e.key.lane != n
        away := t.away.filter fun k => !((t.ofLane n).map (·.key)).contains k } := by
  have gone : (t.leaving n).filter (fun k => !((t.ofLane n).map (·.key)).contains k) = [] := by
    rw [List.filter_eq_nil_iff]
    intro k hk
    simp only [DeviceTable.leaving, List.mem_map] at hk
    obtain ⟨e, he, rfl⟩ := hk
    have he := List.mem_filter.mp he
    simp only [Bool.not_eq_true', Bool.not_eq_false]
    rw [List.contains_iff_mem]
    exact List.mem_map.mpr ⟨e, he.1, rfl⟩
  have kept : (t.entries.map (Entry.leftBy n)).filter (fun e => !((t.ofLane n).map (·.key)).contains e.key) =
      t.entries.filter fun e => e.key.lane != n := by
    rw [List.filter_map]
    have same : t.entries.filter ((fun e => !((t.ofLane n).map (·.key)).contains e.key) ∘ Entry.leftBy n) =
        t.entries.filter fun e => e.key.lane != n := by
      refine List.filter_congr fun e he => ?_
      simp only [Function.comp, leftBy_key, ofLane_contains he, bne]
    rw [same]
    have : ∀ e ∈ t.entries.filter (fun e => e.key.lane != n), Entry.leftBy n e = e := fun e he => by
      have : e.key.lane ≠ n := by simpa using (List.mem_filter.mp he).2
      simp [Entry.leftBy, this]
    rw [List.map_congr_left this, List.map_id']
  simp only [DeviceTable.remove, turnAway_entries, kept]
  simp only [DeviceTable.turnAway, List.filter_append, gone, List.append_nil]

end

section

variable (n : Lane) (s : State)

theorem turnAway_eq :
    turnAway n s =
      { s with
        table := s.table.turnAway n
        port := { s.port with
          notices := rosterIn n 0 0 ((s.table.ofLane n).filter Entry.bound).length s.port.notices } } := by
  simp [turnAway, raiseRoster_eq, State.modTable, State.modPort, DeviceTable.leaving]

/-- R14: what the start of the hold makes of a state. -/
theorem startHold_eq :
    startHold n s =
      if s.settings.remateHold = 0 then
        { s with
          table := s.table.remove (s.table.awayOf n)
          port := { s.port with notices := rosterIn n 0 (s.table.awayOf n).length 0 s.port.notices } }
      else s.withColumn n { s.col n with ctl := { (s.col n).ctl with hold := .running s.settings.remateHold } } := by
  unfold startHold
  split
  · simp [removeAway, removeCounted, raiseRoster_eq, State.modTable, State.modPort]
  · simp [updates_eq]

/-- R13, R14: a lane has left the powered states, `f` being what its transition makes of the controller besides. -/
theorem departed_eq (f : LaneCtl → LaneCtl) :
    (departPowered n s).withColumn n
        { (departPowered n s).col n with ctl := f ((departPowered n s).col n).ctl } = s.departed n f := by
  by_cases zero : s.settings.remateHold = 0
  · simp only [departPowered, startHold_eq, turnAway_eq, leavePowered_eq, State.departed, State.leftTable,
      withColumn_settings, zero, if_true, withColumn_table, awayOf_turnAway, remove_turnAway]
    simp [State.withColumn, State.col, Column.unpowered]
  · simp only [departPowered, startHold_eq, turnAway_eq, leavePowered_eq, State.departed, State.leftTable,
      withColumn_settings, zero, if_false, withColumn_table, turnAway_table]
    simp [State.withColumn, State.col, Column.unpowered]

theorem leavePowered_laneState : (leavePowered n s).laneState n = s.laneState n := by
  simp [leavePowered_eq, State.laneState, State.col, State.withColumn, Column.unpowered]

theorem departPowered_laneState : (departPowered n s).laneState n = s.laneState n := by
  simp only [departPowered, startHold_eq, turnAway_eq, leavePowered_eq]
  split <;> simp [State.laneState, State.col, State.withColumn, Column.unpowered]

end

end Sys2Proof.Machine
end

section
/-!
A lane leaves the powered states: the open event, the faults of the supply and of a stuck line; REWALK (R7, R10 to R16,
R44 to R52, R83, R86, R89, R133).
-/

namespace Sys2Proof.Machine

section

variable {n : Lane} {s u : State} (moves : LaneMoves n s u) (state : u.laneState n = s.laneState n)
include moves state

/-- R13, R15: PARTING is entered from a powered state. -/
theorem enterParting_departed :
    enterParting n (departPowered n u) =
      toldNaming s (raise (stateNotice n .parting .opened)
        (u.departed n fun c => { c with state := .parting, settle := .running u.settings.mateSettle })) := by
  have settings : (departPowered n u).settings = u.settings := (departPowered_moves .refl).frame.settings
  rw [enterParting_told (departPowered_moves moves) ((departPowered_laneState n u).trans state), settings,
    departed_eq n u fun c => { c with state := .parting, settle := .running u.settings.mateSettle }]

/-- R13, R16: a fault of a powered lane. -/
theorem faultPowered_faulted (powered : (u.laneState n).powered = true) (code : FaultCode) (current voltage : Code) :
    faultPowered n code current voltage u = toldNaming s (u.faulted n code current voltage) := by
  unfold faultPowered
  rw [if_pos powered, enterFault_told (departPowered_moves moves) ((departPowered_laneState n u).trans state),
    departed_eq n u fun c => { c with state := .fault, fault := code }]
  rfl

end

/-- R2: the reading stored before a departure stands in its column. -/
theorem departed_setReading (n : Lane) (s : State) (x : Reading) (f : LaneCtl → LaneCtl) :
    (setReading n x s).departed n f = s.departed n fun c => f { c with reading := x } := by
  rw [setReading_eq]
  simp only [State.departed, State.leftTable, withColumn_col, withColumn_settings, withColumn_table, withColumn_port]
  simp [State.withColumn, Column.unpowered, Column.abortNotices, Column.goneReplies]

theorem withdraw_withdraw (c : Converter) (n : Lane) : (c.withdraw n).withdraw n = c.withdraw n := by
  cases h : c.job with
  | none => simp [Converter.withdraw, h]
  | some j =>
    by_cases own : j.lane = n
    · simp [Converter.withdraw, h, Job.orphan, own]
    · simp [Converter.withdraw, h, Job.orphan, own]

/-- R13, R50: a departure opens the switch, and finds one already opened as it leaves it. -/
theorem departed_openSwitch (n : Lane) (s : State) (f : LaneCtl → LaneCtl) :
    (openSwitch n s).departed n f = s.departed n f := by
  simp only [openSwitch, updates_eq]
  simp only [State.departed, State.leftTable, State.modConverter_col, withColumn_col, State.modConverter_settings,
    withColumn_settings, State.modConverter_table, withColumn_table, State.modConverter_port, withColumn_port,
    State.modConverter_converter, withColumn_converter, withdraw_withdraw]
  simp [State.withColumn, State.modConverter, Column.unpowered, Column.abortNotices, Column.goneReplies]

/-! ## The open event (R13, R15) -/

/-- Settles O11. -/
theorem openEventLeavesPower : Obligations.OpenEventLeavesPower := by
  intro n contact s reads mated blank high powered
  have moves : LaneMoves n s (setReading n .opened s) := setReading_moves .refl _
  have taken := execOpenEvent_taken reads mated (followed blank high)
  have acts : openAction n (setReading n .opened s) = enterParting n (departPowered n (setReading n .opened s)) := by
    unfold openAction
    rw [setReading_laneState]
    cases h : s.laneState n <;> simp_all [LaneState.powered]
  simp only [exec, taken, acts]
  rw [enterParting_departed moves (setReading_laneState _), departed_setReading, moves.frame.settings]

/-! ## REWALK (R7, R11) -/

theorem leaveReady_laneState (n : Lane) (s : State) : (leaveReady n s).laneState n = s.laneState n := by
  simp [leaveReady_eq, State.laneState]

/-- Settles O15. -/
theorem rewalkIsTaken : Obligations.RewalkIsTaken := by
  intro tag lane n s field takes ready
  have moves : LaneMoves n s (leaveReady n s) := leaveReady_moves .refl
  rw [execRewalk_takes takes, laneControl_taken field ready, rewalkLane,
    enterWalking_told (modRoll_moves moves _) (by simpa [State.laneState] using leaveReady_laneState n s),
    lineGrant_toldNaming, lineGrant_raise, lineGrant_eq, leaveReady_eq]
  by_cases idle : (s.col n).engine.phase = .idle
  · have rests : (s.col n).engine.abort.phase = .idle := by simp [abort_eq, idle]
    have grants : (s.col n).engine.abort.granted = (s.col n).engine.granted := by rw [abort_eq, if_pos (.inl idle)]; rfl
    simp only [idle, if_true]
    simp [updates_eq, lineGranted_procedure, rests, LineArbiter.reset, grants]
    rfl
  · have closing : (s.col n).engine.abort.phase ≠ .idle := by
      rw [abort_eq]
      split
      · exact idle
      · exact nofun
    simp only [idle, if_false, unpowered_eq]
    simp [updates_eq, lineGranted_busy, closing, LineArbiter.reset]
    rfl

/-! ## The supply's faults (R45 to R52) -/

theorem openSwitch_laneState (n : Lane) (s : State) : (openSwitch n s).laneState n = s.laneState n := by
  simp [openSwitch, State.laneState]

section

variable {n : Lane} {s u : State} (moves : LaneMoves n s u) (state : u.laneState n = s.laneState n)
include moves state

/-- R50, R52: the supervisor's fault, with the readings held before the opening. -/
theorem supplyFault_faulted (powered : (u.laneState n).powered = true) (code : FaultCode) :
    supplyFault n code u =
      toldNaming s (u.faulted n code (u.col n).supervisor.current (u.col n).supervisor.voltage) := by
  have opened := openSwitch_laneState n u
  rw [supplyFault, faultPowered_faulted (openSwitch_moves moves) (opened.trans state) (opened ▸ powered), State.faulted,
    departed_openSwitch]
  rfl

end

theorem trips_iff {v : Supervisor} {cls : SupplyClass} (hcls : v.cls = some cls) (milliamps : Nat) :
    v.trips milliamps = true ↔ (v.phase = .check ∨ v.phase = .policing) ∧ 2 * cls.budget < milliamps := by
  have armed : v.comparator = .armed → (v.trips milliamps = true ↔ 2 * cls.budget < milliamps) := fun h => by
    simp only [Supervisor.trips, h, hcls, SupplyClass.tripThreshold]
    exact decide_eq_true_iff
  have unarmed : v.comparator ≠ .armed → v.trips milliamps = false := fun h => by
    unfold Supervisor.trips
    split
    · exact absurd ‹_› h
    · rfl
  cases phase : v.phase
  case idle => simp [unarmed (by simp [Supervisor.comparator, phase])]
  case inrush => simp [unarmed (by simp [Supervisor.comparator, phase])]
  case check => simp [armed (by simp [Supervisor.comparator, phase])]
  case policing => simp [armed (by simp [Supervisor.comparator, phase])]

/-- Settles O17. -/
theorem supplyEventsAreTaken : Obligations.SupplyEventsAreTaken := by
  intro n milliamps cls s
  refine ⟨fun powered hcls => ⟨fun armed above => ?_, fun under => ?_⟩, fun running => ?_, fun running hcls powered => ?_⟩
  · have trips := (trips_iff hcls milliamps).mpr ⟨armed, above⟩
    simp only [exec, execTripEvent, tripCheck, trips, if_true, supplyFault_faulted .refl rfl powered]
  · have quiet : ¬(s.col n).supervisor.trips milliamps = true := by
      rw [trips_iff hcls]
      rcases under with small | idle | inrush
      · omega
      · simp [idle]
      · simp [inrush]
    simp only [exec, execTripEvent, tripCheck, if_neg quiet]
  · have placed : s.converter.place .sample n =
        if s.converter.job = none then
          { s.converter with samplePending := s.converter.samplePending.set n true }.arbitrate
        else { s.converter with samplePending := s.converter.samplePending.set n true } := by
      cases job : s.converter.job <;> simp [Converter.place, Converter.arbitrate, job]
    simp only [exec, execSampleDueInstant, running, if_true, updates_eq, ← placed]
    rfl
  · have moves : LaneMoves n s (inrushExpired n s) := inrushExpired_moves .refl
    have state : (inrushExpired n s).laneState n = s.laneState n := by simp [inrushExpired, State.laneState]
    have checks : ((inrushExpired n s).col n).supervisor = (s.col n).supervisor.endInrush := by simp [inrushExpired]
    have trips := trips_iff (v := (s.col n).supervisor.endInrush) (cls := cls) hcls milliamps
    simp only [exec, execInrushWindowExpiry, running, if_true, tripCheck, checks]
    refine ⟨fun under => ?_, fun above => ?_⟩
    · rw [if_neg (by rw [trips]; omega)]
      simp only [inrushExpired, updates_eq]
      rfl
    · rw [if_pos (trips.mpr ⟨.inl rfl, above⟩), supplyFault_faulted moves state (state ▸ powered), checks]
      simp only [inrushExpired, updates_eq]
      rfl

/-- R46, R48: what a stored sample makes of the supervisor, its class known. -/
theorem store_eq {v : Supervisor} {cls : SupplyClass} (hcls : v.cls = some cls) (current voltage : Code) :
    v.store current voltage = v.sampled cls current voltage := by
  simp [Supervisor.store, Supervisor.sampled, Supervisor.accumulate, Supervisor.overBudget, hcls, satAdd,
    Config.overloadLimit, Config.overloadUp, Config.overloadDown]

/-- R51: what a fault leaves of a lane does not depend on its supervisor. -/
theorem faulted_supervisor (n : Lane) (s : State) (v : Supervisor) (code : FaultCode) (current voltage : Code) :
    (s.withColumn n { s.col n with supervisor := v }).faulted n code current voltage =
      s.faulted n code current voltage := by
  simp only [State.faulted, State.departed, State.leftTable, withColumn_col, withColumn_settings, withColumn_table,
    withColumn_port, withColumn_converter]
  simp only [State.withColumn, PerLane.set_set]
  rfl

section

variable {n : Lane} {s : State} {current voltage : Code} {v : Supervisor}
  (stored : (s.col n).supervisor.store current voltage = v)
include stored

theorem sampleResult_overload (limit : 60 ≤ v.overload) :
    sampleResult n current voltage s = supplyFault n .overload (s.withColumn n { s.col n with supervisor := v }) := by
  simp only [sampleResult, updates_eq, withColumn_col, stored]
  exact if_pos limit

theorem sampleResult_check (low : v.overload < 60) (checking : v.phase = .check) :
    sampleResult n current voltage s = decidePowerGood n voltage (s.withColumn n { s.col n with supervisor := v }) := by
  simp only [sampleResult, updates_eq, withColumn_col, stored, checking]
  exact if_neg (Nat.not_le.mpr low)

theorem sampleResult_policing (low : v.overload < 60) (policing : v.phase = .policing) :
    sampleResult n current voltage s = policeVoltage n voltage (s.withColumn n { s.col n with supervisor := v }) := by
  simp only [sampleResult, updates_eq, withColumn_col, stored, policing]
  exact if_neg (Nat.not_le.mpr low)

end

theorem decidePowerGood_passes (n : Lane) (s : State) {voltage : Code} (good : 2700 ≤ voltage.toNat) :
    decidePowerGood n voltage s = powerGood n voltage s := if_pos good

theorem decidePowerGood_fails (n : Lane) (s : State) {voltage : Code} (bad : voltage.toNat < 2700) :
    decidePowerGood n voltage s = faultPowered n .noPowerGood 0 0 s := if_neg (Nat.not_le.mpr bad)

section

variable (n : Lane) (s : State) (v : Supervisor) {voltage : Code}

theorem policeVoltage_faults (third : 3 ≤ v.lowAfter voltage) :
    policeVoltage n voltage (s.withColumn n { s.col n with supervisor := v }) =
      supplyFault n .supplyLow
        (s.withColumn n { s.col n with supervisor := { v with lowCount := v.lowAfter voltage } }) := by
  simp only [policeVoltage, updates_eq, withColumn_col, withColumn_withColumn]
  exact if_pos third

theorem policeVoltage_counts (fewer : ¬3 ≤ v.lowAfter voltage) :
    policeVoltage n voltage (s.withColumn n { s.col n with supervisor := v }) =
      s.withColumn n { s.col n with supervisor := { v with lowCount := v.lowAfter voltage } } := by
  simp only [policeVoltage, updates_eq, withColumn_col, withColumn_withColumn]
  exact if_neg fewer

end

/-- Settles O18. -/
theorem samplesAreJudged : Obligations.SamplesAreJudged := by
  intro n current voltage cls s job powered hcls
  have stored := store_eq hcls current voltage
  have handled : exec (.sampleJobCompletion current voltage) s =
      .next ((sampleResult n current voltage s).modConverter Converter.complete) := by
    simp only [exec, execSampleJobCompletion, job, if_true]
  have moves (v : Supervisor) : LaneMoves n s (s.withColumn n { s.col n with supervisor := v }) :=
    modSupervisor_moves .refl fun _ => v
  have state (v : Supervisor) : (s.withColumn n { s.col n with supervisor := v }).laneState n = s.laneState n := by
    simp [State.laneState]
  refine ⟨fun checking low => ⟨fun good => ?_, fun bad => ?_⟩, fun inv policing => ?_⟩
  · rw [handled, sampleResult_check stored low checking, decidePowerGood_passes _ _ good, powerGood]
    simp only [updates_eq, withColumn_col, withColumn_withColumn]
    rfl
  · rw [handled, sampleResult_check stored low checking, decidePowerGood_fails _ _ bad,
      faultPowered_faulted (moves _) (state _) (state _ ▸ powered)]
  · intro count counted
    rw [handled]
    by_cases limit : ((s.col n).supervisor.sampled cls current voltage).overload = 60
    · rw [sampleResult_overload stored (Nat.le_of_eq limit.symm),
        supplyFault_faulted (moves _) (state _) (state _ ▸ powered),
        if_pos limit, faulted_supervisor, faulted_supervisor, withColumn_col]
      rfl
    · have most : ((s.col n).supervisor.sampled cls current voltage).overload < 60 := by
        have := (inv n).overload
        simp only [Config.overloadLimit, Supervisor.sampled] at this limit ⊢
        split <;> split at limit <;> omega
      rw [sampleResult_policing stored most policing, if_neg limit]
      by_cases third : 3 ≤ count
      · rw [if_pos third, policeVoltage_faults n s ((s.col n).supervisor.sampled cls current voltage) third,
          supplyFault_faulted (moves _) (state _) (state _ ▸ powered),
          withColumn_col]
        rfl
      · rw [if_neg third, policeVoltage_counts n s ((s.col n).supervisor.sampled cls current voltage) third]
        rfl

/-! ## A stuck line (R61, R83) -/

/-- Settles O26. -/
theorem idleCheckEnds : Obligations.IdleCheckEnds := by
  intro n s checking
  refine ⟨by simp only [exec, execIdleCheckPassed, checking, if_true, updates_eq], fun walks => ?_⟩
  have moves : LaneMoves n s (s.modEngine n Engine.rest) := modEngine_moves .refl _
  have state : (s.modEngine n Engine.rest).laneState n = s.laneState n := by simp [State.laneState]
  have powered : (s.laneState n).powered = true := by rcases walks with h | h <;> simp [h, LaneState.powered]
  have stuck : stuckLine n s = faultPowered n .lineStuck 0 0 (s.modEngine n Engine.rest) := by
    unfold stuckLine
    rcases walks with h | h <;> simp [h]
  simp only [exec, execLineStuck, checking, if_true, stuck]
  rw [faultPowered_faulted moves state (state ▸ powered)]
  simp only [updates_eq]
  rfl

end Sys2Proof.Machine
end

section
/-!
The completions of point jobs: a code written, a series that goes on or ends, results discarded; the converter's rotation
(R2, R4, R6, R24, R28, R30, R36, R37).
-/

namespace Sys2Proof.Machine

/-! ## A point job's completion (R37) -/

section

variable {n : Lane} {code : Code} {contact : Contact} {p : Point} {live : Bool} {s : State}
  (job : s.converter.job = some { lane := n, kind := .point p, live })
include job

theorem execPointJobCompletion_taken :
    exec (.pointJobCompletion code contact) s =
      .next ((pointHandled n live code contact s).modConverter Converter.complete) := by
  simp only [exec, execPointJobCompletion, job]

theorem execPointJobCompletion_opened (opened : contact.reads = .opened) :
    exec (.pointJobCompletion code contact) s =
      .next ((openAction n (setReading n .opened s)).modConverter Converter.complete) := by
  simp only [execPointJobCompletion_taken job, pointHandled, opened]

end

section

variable {n : Lane} {code : Code} {contact : Contact} {p : Point} {s : State}
  (job : s.converter.job = some { lane := n, kind := .point p, live := true }) (mated : contact.reads = .mated)
  (measuring : s.laneState n = .signature)

/-- R37: the state in which a point's code is written. -/
def State.pointWritten (s : State) (n : Lane) (r : SignatureRecord) : State :=
  s.withColumn n { s.col n with ctl := { (s.col n).ctl with reading := .mated, record := r } }

include job mated measuring in
theorem execPointJobCompletion_written :
    exec (.pointJobCompletion code contact) s =
      .next ((continueSeries n (s.pointWritten n ((s.col n).ctl.record.writePoint code))).modConverter
        Converter.complete) := by
  have handled : pointHandled n true code contact s = pointResult n code (setReading n .mated s) := by
    simp [pointHandled, mated, measuring]
  rw [execPointJobCompletion_taken job, handled]
  simp [pointResult, setReading_eq, updates_eq, State.pointWritten]

theorem pointWritten_record (r : SignatureRecord) : ((s.pointWritten n r).col n).ctl.record = r := by
  simp [State.pointWritten]

theorem pointWritten_laneState (r : SignatureRecord) : (s.pointWritten n r).laneState n = s.laneState n := by
  simp [State.pointWritten, State.laneState]

theorem pointWritten_moves (r : SignatureRecord) : LaneMoves n s (s.pointWritten n r) :=
  modCtl_moves .refl fun c => { c with reading := .mated, record := r }

end

/-- Settles O20, by the point that the order puts next. -/
theorem pointCodeIsWritten : Obligations.PointCodeIsWritten := by
  intro n code contact p s job mated measuring unjudged
  have goesOn (early : (s.col n).ctl.record.m1.v1 = none ∨ (s.col n).ctl.record.m1.v2 = none ∨ (s.col n).ctl.record.m2.v1 = none)
      (q : Point) (r : SignatureRecord) (written : (s.col n).ctl.record.writePoint code = r) (next : r.nextPoint = q) :
      exec (.pointJobCompletion code contact) s =
        .next { s.withColumn n { s.col n with ctl := { (s.col n).ctl with reading := .mated, record := r } } with
          converter := (s.converter.place (.point q) n).complete } := by
    have verdict : r.attemptVerdict = none := written ▸ (writePoint_early code early).trans unjudged
    rw [execPointJobCompletion_written job mated measuring, written,
      continueSeries_unjudged ((pointWritten_record r).symm ▸ verdict), pointWritten_record, next]
    rfl
  refine ⟨fun h1 h2 => ?_, fun v1 h1 h2 h3 => ?_, fun h1 h2 h3 => ?_⟩
  · refine goesOn (.inl h1) .p2 _ (by simp only [SignatureRecord.writePoint, h1]) ?_
    simp only [SignatureRecord.nextPoint, h2]
  · refine goesOn (.inr (.inl h2)) .p1 _ ?_ ?_
    · simp only [SignatureRecord.writePoint, h1, h2, Measurement.judge, slopeCode]
    · simp only [SignatureRecord.nextPoint, h3]
  · obtain ⟨a, h1⟩ := Option.ne_none_iff_exists'.mp h1
    obtain ⟨b, h2⟩ := Option.ne_none_iff_exists'.mp h2
    refine goesOn (.inr (.inr h3)) .p2 _ (by simp only [SignatureRecord.writePoint, h1, h2, h3]) ?_
    simp only [SignatureRecord.nextPoint, h1, h2]

/-! ## A VALID series (R4, R6) -/

/-- R28, R30: the end of a series VALID writes a slope code. -/
theorem endValid_slope (r : SignatureRecord) : r.endValid.slope = some (r.endValid.slope.getD 0) := rfl

theorem continueSeries_valid {n : Lane} {s : State} (h : (s.col n).ctl.record.attemptVerdict = some .valid) :
    continueSeries n s = actOnValid n (s.modCtl n fun c => { c with record := c.record.endValid }) := by
  simp only [continueSeries, h]

section

variable {n : Lane} {u : State} {cls : SupplyClass} {slope : Int} (hcls : (u.col n).ctl.record.cls = some cls)
  (hslope : (u.col n).ctl.record.slope = some slope)
include hcls hslope

theorem actOnValid_auto (none : (u.col n).ctl.grantPending = none) (auto : u.settings.policy.get n = .auto) :
    actOnValid n u = enterPowering n .signatureValid (some (cls, slope)) u := by
  simp only [actOnValid, none, auto, hcls, hslope]
  rfl

theorem actOnValid_held (none : (u.col n).ctl.grantPending = none) (held : u.settings.policy.get n = .held) :
    actOnValid n u = enterAwaitGrant n .signatureValid (some (cls, slope)) u := by
  simp only [actOnValid, none, held, hcls, hslope]
  rfl

theorem actOnValid_same (pending : (u.col n).ctl.grantPending = some cls) :
    actOnValid n u =
      enterPowering n .signatureValid (some (cls, slope)) (u.modCtl n fun c => { c with grantPending := none }) := by
  simp only [actOnValid, pending, hcls, hslope, if_true]
  rfl

theorem actOnValid_other {other : SupplyClass} (differs : other ≠ cls)
    (pending : (u.col n).ctl.grantPending = some other) :
    actOnValid n u =
      enterAwaitGrant n .classChanged (some (cls, slope)) (u.modCtl n fun c => { c with grantPending := none }) := by
  simp only [actOnValid, pending, hcls, hslope, Option.some.injEq, differs, if_false]
  rfl

end

/-- Settles O22, by the pending grant and the policy. -/
theorem validSeriesIsActedOn : Obligations.ValidSeriesIsActedOn := by
  intro n code contact cls p s job mated measuring opened r valid hcls slope judged powers awaits next
  have judgedAs : next = .next ((actOnValid n (s.pointWritten n r)).modConverter Converter.complete) := by
    simp only [next]
    rw [execPointJobCompletion_written job mated measuring, continueSeries_valid ((pointWritten_record _).symm ▸ valid)]
    simp [State.pointWritten, updates_eq, r]
  have moves := pointWritten_moves (n := n) (s := s) r
  have state := pointWritten_laneState (n := n) (s := s) r
  have open' : ((s.pointWritten n r).col n).supervisor.switch = .opened := by simpa [State.pointWritten] using opened
  have spentMoves : LaneMoves n s ((s.pointWritten n r).modCtl n fun c => { c with grantPending := none }) :=
    modCtl_moves moves _
  have spentState : ((s.pointWritten n r).modCtl n fun c => { c with grantPending := none }).laneState n = s.laneState n := by
    simpa [State.laneState] using state
  have recordCls : ((s.pointWritten n r).col n).ctl.record.cls = some cls := by rw [pointWritten_record, hcls]
  have recordSlope : ((s.pointWritten n r).col n).ctl.record.slope = some slope := by
    rw [pointWritten_record]
    exact endValid_slope _
  have pendingAs : ((s.pointWritten n r).col n).ctl.grantPending = (s.col n).ctl.grantPending := by simp [State.pointWritten]
  refine ⟨fun pending auto => ?_, fun pending held => ?_, fun pending => ?_, fun other differs pending => ?_⟩
  · rw [judgedAs, actOnValid_auto recordCls recordSlope (pendingAs.trans pending) auto,
      enterPowering_told moves state _ _ open', pointWritten_record]
    simp [powers, judged, State.pointWritten, validNotice, hcls, pending]
  · rw [judgedAs, actOnValid_held recordCls recordSlope (pendingAs.trans pending) held, enterAwaitGrant_told moves state]
    simp [awaits, judged, State.pointWritten, validNotice, pending]
  · rw [judgedAs, actOnValid_same recordCls recordSlope (pendingAs.trans pending),
      enterPowering_told spentMoves spentState _ _ (by simpa using open')]
    simp [powers, judged, State.pointWritten, updates_eq, validNotice, hcls]
  · rw [judgedAs, actOnValid_other recordCls recordSlope differs (pendingAs.trans pending),
      enterAwaitGrant_told spentMoves spentState]
    simp [awaits, judged, State.pointWritten, updates_eq, validNotice]

/-! ## A failed attempt (R4, R6, R28) -/

theorem failSeries_told {n : Lane} {s u : State} (moves : LaneMoves n s u) (state : u.laneState n = s.laneState n)
    (final : FinalVerdict) (code : FaultCode) :
    failSeries n final code u =
      toldNaming s (raise (stateNotice n .fault .faulted) (raise (.laneFault n { code, current := 0, voltage := 0 })
        { u.withColumn n
            { u.col n with
              ctl := { (u.col n).ctl with
                state := .fault, fault := code, grantPending := none, record := { (u.col n).ctl.record with final } } } with
          converter := u.converter.withdraw n })) := by
  rw [failSeries, enterFault_told (withdrawJobs_moves (modCtl_moves moves _))
    (by simpa [State.laneState, withdrawJobs] using state)]
  simp [withdrawJobs, updates_eq]
  rfl

theorem continueSeries_short {n : Lane} {s : State} (h : (s.col n).ctl.record.attemptVerdict = some .signatureShort) :
    continueSeries n s = failSeries n .signatureShort .signatureShort s := by
  simp only [continueSeries, h]

theorem continueSeries_bad {n : Lane} {s : State}
    (h : (s.col n).ctl.record.attemptVerdict = some .spread ∨ ∃ v, (s.col n).ctl.record.attemptVerdict = some (.failed v))
    (spent : 3 ≤ (s.col n).ctl.record.attempts) :
    continueSeries n s = failSeries n .signatureBad .signatureBad s := by
  have last : ¬(s.col n).ctl.record.attempts < Config.seriesAttempts := Nat.not_lt.mpr spent
  obtain h | ⟨v, h⟩ := h
  all_goals simp only [continueSeries, h, last, if_false]

/-- Settles O23, by the verdict and the attempts made. -/
theorem failedAttemptIsRetried : Obligations.FailedAttemptIsRetried := by
  intro n code contact p s job mated measuring r faults next
  have goesOn : next = .next ((continueSeries n (s.pointWritten n r)).modConverter Converter.complete) :=
    execPointJobCompletion_written job mated measuring
  have faulted (final : FinalVerdict) (fault : FaultCode) :
      (failSeries n final fault (s.pointWritten n r)).modConverter Converter.complete = faults final fault := by
    rw [failSeries_told (pointWritten_moves r) (pointWritten_laneState r)]
    simp [faults, State.pointWritten]
  have record := pointWritten_record (n := n) (s := s) r
  refine ⟨fun short => ?_, fun v2 failed => ?_⟩
  · rw [goesOn, continueSeries_short (record.symm ▸ short), faulted]
  · have failed : r.attemptVerdict = some .spread ∨ ∃ v, r.attemptVerdict = some (.failed v) :=
      failed.imp_right fun h => ⟨v2, h⟩
    refine ⟨fun left => ?_, fun spent => ?_⟩
    · rw [goesOn, continueSeries_retried (record.symm ▸ failed) (record.symm ▸ left)]
      simp [State.pointWritten, updates_eq, SignatureRecord.beginAttempt]
      rfl
    · rw [goesOn, continueSeries_bad (record.symm ▸ failed) (record.symm ▸ spent), faulted]

/-! ## Discarded results (R37) -/

section

variable {n : Lane} {f : Converter → Converter} (apart : ∀ c : Converter, (f c).withdraw n = f (c.withdraw n)) (s : State)

theorem passDue_modConverter : passDue (s.modConverter f) = (passDue s).modConverter f := by
  have same : (s.modConverter f).anyBringingUp = s.anyBringingUp := rfl
  unfold passDue
  rw [same]
  split <;> rfl

theorem toldNaming_modConverter (before : State) :
    toldNaming before (s.modConverter f) = (toldNaming before s).modConverter f := by
  have same : causedByTransition before (s.modConverter f) = causedByTransition before s := rfl
  unfold toldNaming
  rw [same]
  split
  · exact passDue_modConverter s
  · rfl

theorem raise_modConverter (x : Notice) : raise x (s.modConverter f) = (raise x s).modConverter f := rfl

theorem transition_modConverter (entered : LaneState) (why : Reason) (carried : Option (SupplyClass × Int)) :
    transition n entered why carried (s.modConverter f) = (transition n entered why carried s).modConverter f := by
  have same : causedByTransition (s.modConverter f) ((s.modConverter f).modCtl n fun c => { c with state := entered }) =
      causedByTransition s (s.modCtl n fun c => { c with state := entered }) := rfl
  simp only [transition, same]
  split
  · exact passDue_modConverter (raise
      (.laneState n { state := entered, reason := why, count := 1, signature := carried, powerGood := none })
      (s.modCtl n fun c => { c with state := entered }))
  · rfl

theorem enterParting_modConverter : enterParting n (s.modConverter f) = (enterParting n s).modConverter f :=
  transition_modConverter (s.modCtl n fun c => { c with settle := .running s.settings.mateSettle }) _ _ _

include apart

theorem departPowered_modConverter : departPowered n (s.modConverter f) = (departPowered n s).modConverter f := by
  simp only [departPowered, startHold_eq, turnAway_eq, leavePowered_eq, State.modConverter_col,
    State.modConverter_converter, State.modConverter_port, apart]
  by_cases zero : s.settings.remateHold = 0
  · simp only [withColumn_settings, State.modConverter_settings, zero, if_true]
    rfl
  · simp only [withColumn_settings, State.modConverter_settings, zero, if_false]
    rfl

theorem withdrawJobs_modConverter : withdrawJobs n (s.modConverter f) = (withdrawJobs n s).modConverter f :=
  congrArg (fun c => ({ s with converter := c } : State)) (apart s.converter)

/-- R37: an open event reads nothing of the converter, and withdraws the lane's jobs at most. -/
theorem openAction_modConverter : openAction n (s.modConverter f) = (openAction n s).modConverter f := by
  have same : (s.modConverter f).laneState n = s.laneState n := rfl
  unfold openAction
  rw [same]
  cases s.laneState n
  case off => rfl
  case empty => rfl
  case settling => exact transition_modConverter (s.modCtl n fun c => { c with settle := .stopped }) .empty .opened none
  case signature =>
    let u := s.modCtl n fun c => { c with grantPending := none }
    exact (congrArg (enterParting n) (withdrawJobs_modConverter apart u)).trans (enterParting_modConverter _)
  case awaitGrant => exact enterParting_modConverter (s.modCtl n fun c => { c with grantWindow := .stopped })
  case powering => exact (congrArg _ (departPowered_modConverter apart s)).trans (enterParting_modConverter _)
  case walking => exact (congrArg _ (departPowered_modConverter apart s)).trans (enterParting_modConverter _)
  case ready => exact (congrArg _ (departPowered_modConverter apart s)).trans (enterParting_modConverter _)
  case parting => rfl
  case fault => exact enterParting_modConverter s

end

/-- Settles O24. -/
theorem discardedResultsAreNotWritten : Obligations.DiscardedResultsAreNotWritten := by
  intro n code voltage contact p live s x
  refine ⟨fun job => ?_, fun job mated => ?_, fun job opened => ⟨fun measuring => ?_, fun high event => ?_⟩⟩
  · simp only [exec, execSampleJobCompletion, job, Bool.false_eq_true, if_false]
    rfl
  · rw [execPointJobCompletion_taken job]
    simp [pointHandled, mated, setReading_eq]
    rfl
  · have moves : LaneMoves n s (setReading n .opened s) := setReading_moves .refl _
    have acts : openAction n (setReading n .opened s) =
        enterParting n (withdrawJobs n ((setReading n .opened s).modCtl n fun c => { c with grantPending := none })) := by
      simp only [openAction, setReading_laneState, measuring]
    rw [execPointJobCompletion_opened job opened, acts,
      enterParting_told (withdrawJobs_moves (modCtl_moves moves _)) (by simp [State.laneState, setReading, withdrawJobs])]
    simp [setReading_eq, updates_eq, withdrawJobs, raise_modConverter, toldNaming_modConverter]
    rfl
  · let u : State :=
      { s.withColumn n { s.col n with ctl := { (s.col n).ctl with reading := .mated } } with
        converter := { s.converter with job := none } }
    have taken : exec (.openEvent n contact) u = .next (openAction n (setReading n .opened u)) :=
      execOpenEvent_taken opened (by simp [u, State.col, State.withColumn])
        (followed (by simp [u, Converter.blanks, Converter.forcing]) high)
    have same : setReading n .opened u = (setReading n .opened s).modConverter fun c => { c with job := none } := by
      simp only [setReading_eq, u]
      simp [State.withColumn, State.col, State.modConverter]
    have apart (c : Converter) : ({ c with job := none } : Converter).withdraw n = { c.withdraw n with job := none } := rfl
    have reached : x = (openAction n (setReading n .opened s)).modConverter fun c => { c with job := none } := by
      rw [← openAction_modConverter apart, ← same]
      exact Host.Outcome.next.inj (event.symm.trans taken)
    rw [execPointJobCompletion_opened job opened, reached]
    rfl

/-! ## The rotation (R36) -/

section

variable (c : Converter) (m : Lane)

theorem offer_eq_none : c.offer m = none ↔ c.samplePending.get m = false ∧ c.pointPending.get m = none := by
  unfold Converter.offer
  cases c.samplePending.get m <;> simp

theorem offer_eq_some {j : Job} (h : c.offer m = some j) :
    j.lane = m ∧ j.live = true ∧ (j.kind = .sample ∧ c.samplePending.get m = true ∨
      c.samplePending.get m = false ∧ ∃ p, c.pointPending.get m = some p ∧ j.kind = .point p) := by
  unfold Converter.offer at h
  split at h
  · obtain rfl := Option.some.inj h
    exact ⟨rfl, rfl, .inl ⟨rfl, ‹_›⟩⟩
  · obtain ⟨p, hp, rfl⟩ := Option.map_eq_some_iff.mp h
    exact ⟨rfl, rfl, .inr ⟨Bool.not_eq_true _ ▸ ‹_›, p, hp, rfl⟩⟩

/-- R36: how many lanes the rotation puts before a lane. -/
def rotationTurn (last m : Lane) : Nat := (m.number + 3 - last.number) % 4

theorem rotation_turn (last : Lane) : (rotation last)[rotationTurn last m]? = some m := by
  cases last <;> cases m <;> rfl

theorem turn_of_rotation {last : Lane} {i : Nat} (h : (rotation last)[i]? = some m) : i = rotationTurn last m := by
  have nodup : (rotation last).Nodup := by cases last <;> decide
  obtain ⟨bound, _⟩ := List.getElem?_eq_some_iff.mp h
  exact (List.getElem?_inj bound nodup).mp (h.trans (rotation_turn m last).symm)

theorem mem_rotation (last : Lane) : m ∈ rotation last := List.mem_of_getElem? (rotation_turn m last)

/-- The lanes that the rotation puts before one that it serves. -/
theorem mem_before {last a m : Lane} {before after : List Lane} (h : rotation last = before ++ a :: after)
    (turn : rotationTurn last m < rotationTurn last a) : m ∈ before := by
  have place : before.length = rotationTurn last a := turn_of_rotation a (by simp [h])
  have own := rotation_turn m last
  rw [h, List.getElem?_append_left (place ▸ turn)] at own
  exact List.mem_of_getElem? own

theorem choose_released : ({ c with job := none } : Converter).choose = c.choose := rfl

theorem complete_rests (h : c.choose = none) : c.complete = { c with job := none } := by
  simp only [Converter.complete, Converter.arbitrate, choose_released, h]

theorem complete_begins {j : Job} (h : c.choose = some j) : c.complete = ({ c with job := none } : Converter).begin j := by
  simp only [Converter.complete, Converter.arbitrate, choose_released, h]

theorem begin_job (j : Job) : (c.begin j).job = some j ∧ (c.begin j).lastServed = j.lane := by
  unfold Converter.begin
  split <;> exact ⟨rfl, rfl⟩

theorem choose_eq_none : c.choose = none ↔ ∀ m, c.samplePending.get m = false ∧ c.pointPending.get m = none := by
  simp only [Converter.choose, List.findSome?_eq_none_iff, offer_eq_none]
  exact ⟨fun h m => h m (mem_rotation m _), fun h m _ => h m⟩

end

/-- Settles O25. -/
theorem converterServesInRotation : Obligations.ConverterServesInRotation := by
  intro c turn
  cases chosen : c.choose with
  | none =>
    rw [complete_rests c chosen]
    exact ⟨⟨fun _ => (choose_eq_none c).mp chosen, fun _ => rfl⟩, nofun⟩
  | some j =>
    obtain ⟨job, served⟩ := begin_job { c with job := none } j
    rw [complete_begins c chosen, job]
    refine ⟨⟨nofun, fun none => absurd ((choose_eq_none c).mpr none) (chosen ▸ nofun)⟩, fun k same => ?_⟩
    obtain rfl := Option.some.inj same
    obtain ⟨before, a, after, split, offered, passed⟩ := List.findSome?_eq_some_iff.mp chosen
    obtain ⟨rfl, live, flag⟩ := offer_eq_some c a offered
    refine ⟨live, served, fun m sooner => (offer_eq_none c m).mp (passed m (mem_before split sooner)), fun kind => ?_,
      fun p kind => ?_⟩
    · obtain ⟨-, flag⟩ | ⟨-, p, -, other⟩ := flag
      · simp [Converter.begin, kind, flag]
      · exact absurd (kind.symm.trans other) nofun
    · obtain ⟨other, -⟩ | ⟨unset, q, flag, point⟩ := flag
      · exact absurd (kind.symm.trans other) nofun
      · obtain rfl : p = q := by simpa using kind.symm.trans point
        simp [Converter.begin, kind, flag, unset]

end Sys2Proof.Machine
end

section
/-!
The line engine: what a failed attempt counts, what breaks an attempt off, what a closing's end and a missing acknowledge
lead to (R58, R60, R62, R63, R75 to R85, R126, R129).
-/

namespace Sys2Proof.Machine

section

variable (s : State) (n : Lane) (r : AttemptResult) (stages : List WireStage)

@[simp] theorem closed_port : (s.closed n stages).port = s.port := rfl
@[simp] theorem closed_settings : (s.closed n stages).settings = s.settings := rfl
@[simp] theorem closed_col :
    (s.closed n stages).col n = { s.col n with engine := { (s.col n).engine with driven := stages } } := by
  simp [State.closed]
@[simp] theorem closed_withColumn (c : Column) : (s.closed n stages).withColumn n c = s.withColumn n c := by
  simp [State.closed]
@[simp] theorem handed_port : (s.handed n r stages).port = s.port := rfl
@[simp] theorem handed_settings : (s.handed n r stages).settings = s.settings := rfl
@[simp] theorem handed_col :
    (s.handed n r stages).col n = { s.col n with engine := { (s.col n).engine with handed := some r, driven := stages } } := by
  simp [State.handed]
@[simp] theorem handed_withColumn (c : Column) : (s.handed n r stages).withColumn n c = s.withColumn n c := by
  simp [State.handed]

end

/-! ## Line errors (R82, R126) -/

/-- R126: the entry after one failed attempt. -/
theorem lineError_eq (threshold : Nat) :
    Entry.lineError threshold = fun e =>
      { e with
        errors := min 255 (e.errors + 1)
        flags := { e.flags with degraded := e.flags.degraded || threshold ≤ min 255 (e.errors + 1) } } := rfl

theorem degrades_iff (threshold : Nat) (e : Entry) :
    e.degrades threshold = true ↔ threshold ≤ min 255 (e.errors + 1) ∧ e.flags.degraded = false := by
  show _ ↔ threshold ≤ satAdd Config.byteCount e.errors 1 ∧ e.flags.degraded = false
  simp only [Entry.degrades, Bool.and_eq_true, Bool.not_eq_true', decide_eq_true_eq]

section

variable {k : EntryKey} {s : State}

theorem countLineError_none (h : s.table.find k = none) : countLineError k s = s := by
  simp only [countLineError, h]

theorem countLineError_some {e : Entry} (h : s.table.find k = some e) :
    countLineError k s =
      { s with
        table := s.table.write k (Entry.lineError s.settings.degradeThreshold)
        port := { s.port with
          notices := rosterIn k.lane 0 0 (if e.degrades s.settings.degradeThreshold then 1 else 0) s.port.notices } } := by
  simp only [countLineError, h, raiseRoster_eq]
  rfl

variable (k : EntryKey) (s : State)

@[simp] theorem countLineError_columns : (countLineError k s).columns = s.columns := by
  cases h : s.table.find k with
  | none => rw [countLineError_none h]
  | some e => rw [countLineError_some h]

@[simp] theorem countLineError_settings : (countLineError k s).settings = s.settings := by
  cases h : s.table.find k with
  | none => rw [countLineError_none h]
  | some e => rw [countLineError_some h]

@[simp] theorem countLineError_col (m : Lane) : (countLineError k s).col m = s.col m := by simp [State.col]

/-- R82: what is counted does not depend on a column. -/
theorem countLineError_withColumn (n : Lane) (c : Column) :
    countLineError k (s.withColumn n c) = (countLineError k s).withColumn n c := by
  cases h : s.table.find k with
  | none => rw [countLineError_none h, countLineError_none (s := s.withColumn n c) h]
  | some e =>
    rw [countLineError_some h, countLineError_some (s := s.withColumn n c) h]
    rfl

end

/-! ## Attempts (R62, R75, R77 to R79) -/

section

variable {n : Lane} {t : Transaction} {s : State}

theorem attempted_eq {e : Engine} (attempting : e.phase.attempting = true) (flight : e.inFlight = some t) :
    e.attempted = some t := by
  simp [Engine.attempted, attempting, flight]

/-- R62, R63, R75, R82: an attempt broken off: the line error counted, the line being closed. -/
theorem breakAttempt_eq (r : AttemptResult) (stages : List WireStage) :
    breakAttempt n t r stages s =
      countLineError ⟨n, t.request.target⟩ (s.withColumn n
        { s.col n with
          engine := { (s.col n).engine with
            phase := .closing, lastFailed := some (r.outcome, r.failedByte), handed := some r, driven := stages
            lck := .released, lda := .released } }) := by
  simp [breakAttempt, failAttempt, handAttempt, updates_eq, countLineError_withColumn, Engine.beginClosing]

/-- R79: the calls whose transactions are retried. -/
theorem allowed_retried (enrol : t.request.call ≠ .enrol) (all : ¬(t.request.call = .release ∧ t.request.handle = 31)) :
    t.allowed = 1 + t.retryLimit := by
  unfold Transaction.allowed
  cases call : t.request.call <;> simp_all [Config.allHandle]

/-- R78: the next attempt, with the settings in force. -/
theorem retryOrEnd_retries (left : t.attempt < t.allowed) (r : AttemptResult) :
    retryOrEnd n t r s =
      s.withColumn n
        { s.col n with
          engine := { (s.col n).engine with
            phase := .idleCheck, inFlight := some { t with attempt := t.attempt + 1 }
            rateInUse := some (s.settings.lineRate.get n), stallInUse := some s.settings.stallLimit
            lck := .released, lda := .released } } := by
  simp [retryOrEnd, left, nextAttempt, beginAttempt, updates_eq, Engine.beginAttempt, Transaction.again]

theorem retryOrEnd_ends (spent : ¬t.attempt < t.allowed) (r : AttemptResult) :
    retryOrEnd n t r s = endTransaction n t (t.failedReport r) s := if_neg spent

end

/-- Settles O29: one argument for both ways of breaking an attempt off. -/
theorem brokenAttemptClosesLine : Obligations.BrokenAttemptClosesLine := by
  intro n slot stopping cause t s attempting flight key broken counted ends
  have attempted := attempted_eq attempting flight
  have breaks (o : Outcome) (stages : List WireStage) :
      (s.table.find key = none → breakAttempt n t (brokenResult o slot) stages s = broken o stages) ∧
      ∀ e, s.table.find key = some e →
        breakAttempt n t (brokenResult o slot) stages s = counted e (broken o stages) := by
    rw [breakAttempt_eq]
    refine ⟨fun absent => countLineError_none absent, fun e found => ?_⟩
    refine (countLineError_some (k := key) (s := broken o stages) found).trans ?_
    rw [lineError_eq]
    simp only [degrades_iff]
    rfl
  refine ⟨⟨fun none => ?_, fun x some => ?_⟩, ⟨fun none => ?_, fun x some => ?_⟩⟩
  · simp only [exec, execStall, attempted, none]
  · simp only [exec, execStall, attempted, some]
    exact ⟨fun h => congrArg _ ((breaks .stall x).1 h), fun e h => congrArg _ ((breaks .stall x).2 e h)⟩
  · simp only [exec, execCollision, attempted, none]
  · simp only [exec, execCollision, attempted, some]
    exact ⟨fun h => congrArg _ ((breaks .collision x).1 h), fun e h => congrArg _ ((breaks .collision x).2 e h)⟩

/-! ## The end of a closing (R63, R77 to R85) -/

theorem lineGranted_transfer {c : Column} (idle : c.engine.phase = .idle) {r : LineRequest}
    (procedure : c.arbiter.procedure = none) (transfer : c.arbiter.transfer = some r) (g : Settings) (n : Lane) :
    c.lineGranted g n =
      { c with
        engine := c.engine.granted g n .transfer r
        arbiter := { procedure := none, transfer := none, lastGrant := .transfer } } := by
  simp [Column.lineGranted, idle, LineArbiter.choice, procedure, transfer, LineArbiter.granted]

/-- R84: of two requests the transfer's is granted, unless it had the last grant. -/
theorem lineGranted_both {c : Column} (idle : c.engine.phase = .idle) {p q : LineRequest}
    (procedure : c.arbiter.procedure = some p) (transfer : c.arbiter.transfer = some q) (g : Settings) (n : Lane) :
    c.lineGranted g n =
      if c.arbiter.lastGrant = .transfer then
        { c with
          engine := c.engine.granted g n .procedure p
          arbiter := { procedure := none, transfer := some q, lastGrant := .procedure } }
      else
        { c with
          engine := c.engine.granted g n .transfer q
          arbiter := { procedure := some p, transfer := none, lastGrant := .transfer } } := by
  by_cases last : c.arbiter.lastGrant = .transfer
  · simp [Column.lineGranted, idle, LineArbiter.choice, procedure, transfer, last, LineArbiter.granted]
  · simp [Column.lineGranted, idle, LineArbiter.choice, procedure, transfer, last, LineArbiter.granted]

theorem lineGranted_nothing {c : Column} (procedure : c.arbiter.procedure = none) (transfer : c.arbiter.transfer = none)
    (g : Settings) (n : Lane) : c.lineGranted g n = c := by
  unfold Column.lineGranted
  split
  · simp [LineArbiter.choice, procedure, transfer]
  · rfl

section

variable {n : Lane} {s : State}

/-- R63: the two rows that end a closing differ in the stages alone. -/
theorem exec_endsClosing {c : Instr} {stages : List WireStage} (ends : endsClosing c n stages)
    (closing : (s.col n).engine.phase = .closing) : exec c s = .next (endClosing n (s.closed n stages)) := by
  have drives : driveClosing n stages s = s.closed n stages := by simp [driveClosing, updates_eq, State.closed]
  obtain ⟨rfl, rfl⟩ | ⟨rfl, rfl⟩ := ends
  · simp only [exec, execClosingStop, closing, if_true, drives]
  · simp only [exec, execClosingGivenUp, closing, if_true, drives]

/-- R63, R84: with no transaction the engine rests, and the arbiter may grant. -/
theorem endClosing_none (none : (s.col n).engine.inFlight = none) :
    endClosing n s =
      s.withColumn n (({ s.col n with engine := (s.col n).engine.rest } : Column).lineGranted s.settings n) := by
  simp only [endClosing, none, lineGrant_eq, updates_eq, withColumn_col, withColumn_withColumn, withColumn_settings]

theorem endClosing_some {t : Transaction} (flight : (s.col n).engine.inFlight = some t) :
    endClosing n s =
      let last := (s.col n).engine.lastFailed.getD (.stall, none)
      retryOrEnd n t { brokenResult last.1 0 with failedByte := last.2 } s := by
  simp only [endClosing, flight]

/-- R89: a read ends with its owed reply. -/
theorem endRead_eq {tag : Byte} (owed : s.port.owed.get n = some tag) (st : Status) (r : Read) :
    endRead n st r s =
      (s.withColumn n { s.col n with slot := .free }).modPort fun p =>
        { p with
          owed := p.owed.set n none
          replies := p.replies ++
            [{ tag, code := 0x06, status := st, payload := BitVec.ofNat 8 r.bytes.length :: r.bytes }] } := by
  simp [endRead, owed, updates_eq, placeReply, State.modPort]

/-- R89: a chunk that failed ends its read LINE_ERROR, no re-walk waiting for it. -/
theorem transferResult_failed {r : Read} (busy : (s.col n).slot = .busy r) (rewalk : (s.col n).ctl.rewalkWaiting = false)
    {p : TransactionReport} (failed : p.result = .failed) : transferResult n p s = endRead n .lineError r s := by
  simp only [transferResult, busy, failed, finishRead, rewalk, Bool.false_eq_true, if_false]

end

theorem handResult_transfer {n : Lane} {t : Transaction} (h : t.requester = .transfer) (p : TransactionReport) (s : State) :
    handResult n t p s = transferResult n p s := by
  simp only [handResult, h]

/-- Settles O30. -/
theorem closingEnds : Obligations.ClosingEnds := by
  intro n t o r tag p q c stages s closing ends a next begun
  have taken : next = .next (endClosing n (s.closed n stages)) := exec_endsClosing ends closing
  refine ⟨fun flight enrol all left => ?_,
    fun flight requester peek spent last cause busy owed rewalk procedure transfer => ?_, fun none => ?_⟩
  · have flight' : ((s.closed n stages).col n).engine.inFlight = some t := by simpa [State.closed] using flight
    rw [taken, endClosing_some flight']
    simp only
    rw [retryOrEnd_retries (by rw [allowed_retried enrol all]; omega)]
    simp [State.closed]
  · have flight' : ((s.closed n stages).col n).engine.inFlight = some t := by simpa [State.closed] using flight
    rw [taken, endClosing_some flight']
    simp only
    have spent' : ¬t.attempt < t.allowed := by
      rw [allowed_retried (by simp [peek]) (by simp [peek])]
      omega
    rw [retryOrEnd_ends spent', endTransaction, handResult_transfer requester,
      transferResult_failed (by simpa [updates_eq] using busy) (by simpa [updates_eq] using rewalk) rfl,
      endRead_eq (by simpa using owed), lineGrant_eq]
    have procedure : (s.col n).arbiter.procedure = some p := procedure
    have transfer : (s.col n).arbiter.transfer = none := transfer
    simp [updates_eq, a, Engine.rest, lineGranted_procedure, procedure, transfer]
    rfl
  · have none' : ((s.closed n stages).col n).engine.inFlight = Option.none := by simpa [State.closed] using none
    let rested : Column := { (s.closed n stages).col n with engine := ((s.closed n stages).col n).engine.rest }
    have grants : next = .next ((s.closed n stages).withColumn n (rested.lineGranted s.settings n)) :=
      taken.trans (congrArg _ (endClosing_none none'))
    have idle : rested.engine.phase = .idle := rfl
    have arbiter : rested.arbiter = a := by simp [rested, State.closed, a]
    have begins (who : Requester) (r : LineRequest) (x : LineArbiter) :
        (s.closed n stages).withColumn n { rested with engine := rested.engine.granted s.settings n who r, arbiter := x } =
          begun who r x := by
      simp [rested, begun, State.closed, Engine.granted, Engine.rest]
    refine ⟨fun procedure transfer => ?_, fun procedure transfer => ?_, fun procedure transfer last => ?_,
      fun procedure transfer last => ?_, fun procedure transfer => ?_⟩
    · rw [grants, lineGranted_procedure idle (arbiter ▸ procedure) (arbiter ▸ transfer), begins, transfer]
    · rw [grants, lineGranted_transfer idle (arbiter ▸ procedure) (arbiter ▸ transfer), begins, procedure]
    · rw [grants, lineGranted_both idle (arbiter ▸ procedure) (arbiter ▸ transfer), if_pos (arbiter ▸ last), begins,
        transfer]
    · rw [grants, lineGranted_both idle (arbiter ▸ procedure) (arbiter ▸ transfer), if_neg (arbiter ▸ last), begins,
        procedure]
    · rw [grants, lineGranted_nothing (arbiter ▸ procedure) (arbiter ▸ transfer)]
      simp [rested, State.closed, Engine.rest, none]

/-! ## The end of an attempt (R75, R79, R80) -/

section

variable {n : Lane} {t : Transaction} {s : State}

/-- R75, R79: the engine acts on an attempt's result. -/
theorem execAttemptEnd_taken (attempting : (s.col n).engine.phase.attempting = true)
    (flight : (s.col n).engine.inFlight = some t) {acks : List Bool} {bytes : List Byte} {r : AttemptResult}
    (result : t.request.result acks bytes = r) :
    exec (.attemptEnd n acks bytes) s = .next (stopAttempt n t r (s.handed n r (t.request.run acks bytes).stages)) := by
  simp only [exec, execAttemptEnd, attempted_eq attempting flight, result]
  simp [handAttempt, updates_eq, State.handed]

/-- R79, R82: an attempt that failed, but not at its offset, is counted. -/
theorem stopAttempt_failed {r : AttemptResult} (failed : r.outcome ≠ .done) (offset : t.refusedOffset r = false) :
    stopAttempt n t r s = retryOrEnd n t r (failAttempt n t r s) := by
  simp [stopAttempt, failed, offset]

/-- R78, R79, R82: a failed attempt with attempts left. -/
theorem stopAttempt_retries {r : AttemptResult} (failed : r.outcome ≠ .done) (offset : t.refusedOffset r = false)
    (left : t.attempt < t.allowed) (stages : List WireStage) :
    stopAttempt n t r (s.handed n r stages) =
      countLineError ⟨n, t.request.target⟩ (s.withColumn n
        { s.col n with
          engine := { (s.col n).engine with
            phase := .idleCheck, inFlight := some { t with attempt := t.attempt + 1 }
            rateInUse := some (s.settings.lineRate.get n), stallInUse := some s.settings.stallLimit
            lastFailed := some (r.outcome, r.failedByte), lck := .released, lda := .released
            handed := some r, driven := stages } }) := by
  rw [stopAttempt_failed failed offset, retryOrEnd_retries left]
  simp [failAttempt, updates_eq, countLineError_withColumn]

end

/-- The acknowledges of a list that begins with some given. -/
theorem given_of_take {acks : List Bool} {k : Nat} (h : acks.take k = List.replicate k true) :
    ∀ i < k, acks.getD i false = true := fun i hi => by
  have : (acks.take k)[i]? = some true := by rw [h]; simp [hi]
  rw [List.getElem?_take_of_lt hi] at this
  simp [this]

theorem given_of_getElem? {acks : List Bool} {k : Nat} (h : ∀ i < k, acks[i]? = some true) :
    ∀ i < k, acks.getD i false = true := fun i hi => by simp [h i hi]

theorem missing_of_getElem? {acks : List Bool} {k : Nat} (h : acks[k]? ≠ some true) : acks.getD k false = false := by
  cases e : acks[k]? with
  | none => simp [e]
  | some b => simpa [e] using h

/-- R67: a check byte that is not the CRC-8 of the bytes before it. -/
theorem checkGood_bad {bytes : List Byte} (some : bytes ≠ []) (bad : crc8 bytes.dropLast ≠ bytes.getLastD 0) :
    checkGood bytes = false := by
  rw [checkGood, Bool.or_eq_false_iff, beq_eq_false_iff_ne]
  exact ⟨by simpa using some, bad⟩

/-- Settles O31: the two ways to fail, each counted and retried. -/
theorem missingAckIsRetried : Obligations.MissingAckIsRetried := by
  intro n t k acks bytes s attempting flight enrol all left heard retried
  have left' : t.attempt < t.allowed := by rw [allowed_retried enrol all]; omega
  refine ⟨fun hk given missing offset => ?_, fun call given long bad => ?_⟩
  · have result := result_nak t.request k acks bytes hk (given_of_take given) (missing_of_getElem? missing)
    simp only [retried]
    rw [execAttemptEnd_taken attempting flight result, stopAttempt_retries ?_ ?_ left']
    · exact nofun
    simp only [Transaction.refusedOffset]
    by_cases peek : t.request.call = .peek
    · have : k ≠ 1 := fun e => offset ⟨peek, e⟩
      simp [peek, this]
    · simp [peek]
  · have expected : t.request.expected = bytes.length := by
      rw [long]
      rcases call with h | h <;> simp [heard, LineRequest.expected, h]
    have nonempty : bytes ≠ [] := by
      rintro rfl
      rcases call with h | h <;> simp [heard, h] at long
    have result := result_acked t.request acks bytes (given_of_getElem? fun i hi => given i (by omega))
    rw [expected, bytesHeard_self, checkGood_bad nonempty bad] at result
    have handed : t.request.handedBytes bytes = some bytes.dropLast := by
      rcases call with h | h <;> simp [LineRequest.handedBytes, h]
    have result : t.request.result acks bytes =
        { outcome := .badCheck, failedByte := none, bytesRead := some bytes.dropLast
          bitTimes := 2 + 9 * (1 + t.request.out.length + heard) } := by
      rw [result, handed, LineRequest.bytes, expected, long]
      rfl
    simp only [retried]
    rw [execAttemptEnd_taken attempting flight result, stopAttempt_retries ?_ ?_ left']
    · exact nofun
    simp [Transaction.refusedOffset]

end Sys2Proof.Machine
end

section
/-!
The devices of a tool on the line: what an undisturbed call reads, whose record arbitration reads, what stops make of the
devices (R54, R57, R59, R63 to R66, R68 to R74).
-/

namespace Sys2Proof.Machine

/-! ## Arbitration (R69) -/

/-- The number that bits spell, most significant first. -/
def bitsValue (bs : List Bool) : Nat := bs.foldl (fun a b => 2 * a + b.toNat) 0

theorem foldl_bits (bs : List Bool) (a : Nat) :
    bs.foldl (fun a b => 2 * a + b.toNat) a = a * 2 ^ bs.length + bitsValue bs := by
  induction bs generalizing a with
  | nil => simp [bitsValue]
  | cons b bs ih =>
    have first : bitsValue (b :: bs) = bs.foldl (fun a b => 2 * a + b.toNat) (2 * 0 + b.toNat) := rfl
    rw [List.foldl_cons, first, ih, ih (2 * 0 + b.toNat), List.length_cons, Nat.pow_succ, Nat.mul_zero,
      Nat.zero_add, Nat.add_mul, Nat.mul_comm 2 a, Nat.mul_assoc, Nat.mul_comm _ 2, Nat.add_assoc]

theorem bitsValue_cons (b : Bool) (bs : List Bool) : bitsValue (b :: bs) = b.toNat * 2 ^ bs.length + bitsValue bs := by
  rw [bitsValue, List.foldl_cons, foldl_bits bs, Nat.mul_zero, Nat.zero_add]

theorem bitsValue_append (xs ys : List Bool) : bitsValue (xs ++ ys) = bitsValue xs * 2 ^ ys.length + bitsValue ys := by
  rw [bitsValue, List.foldl_append, foldl_bits ys]
  rfl

theorem bitsValue_lt (bs : List Bool) : bitsValue bs < 2 ^ bs.length := by
  induction bs with
  | nil => simp [bitsValue]
  | cons b bs ih =>
    rw [bitsValue_cons, List.length_cons, Nat.pow_succ]
    cases b
    · simp; omega
    · simp; omega

theorem bitsValue_byte (b : Byte) : bitsValue (bitsOfByte b) = b.toNat := by
  have spelled : (byteOf (bitsOfByte b)).toNat = b.toNat := by rw [byteOf_bitsOfByte]
  have small := bitsValue_lt (bitsOfByte b)
  rw [← spelled]
  simp only [length_bitsOfByte] at small
  simp only [byteOf, BitVec.toNat_ofNat]
  exact (Nat.mod_eq_of_lt small).symm

theorem bitsValue_bytes (b : Byte) (bs : List Byte) :
    bitsValue (bitsOf (b :: bs)) = b.toNat * 2 ^ (8 * bs.length) + bitsValue (bitsOf bs) := by
  rw [bitsOf_cons, bitsValue_append, bitsValue_byte, length_bitsOf]

/-- R69: the line reads a bit HIGH when every device still in arbitration releases it. -/
theorem arbitrate_line (records : List (List Bool)) :
    wireHigh (records.map fun r => lowIf !(r.headD true)) = records.all fun r => r.headD true :=
  wireHigh_lowIf _ _

/-- R69: of records of one length the line carries the one that spells the smallest number. -/
theorem arbitrate_smallest (k : Nat) (records : List (List Bool)) (m : List Bool) (mem : m ∈ records)
    (long : ∀ r ∈ records, r.length = k) (least : ∀ r ∈ records, bitsValue m ≤ bitsValue r) : arbitrate k records = m := by
  induction k generalizing records m with
  | zero => exact (List.eq_nil_of_length_eq_zero (long m mem)).symm
  | succ k ih =>
    obtain ⟨b, bs, rfl⟩ : ∃ b bs, m = b :: bs := List.exists_cons_of_length_eq_add_one (long m mem)
    have split (r) (hr : r ∈ records) : ∃ c cs, r = c :: cs ∧ cs.length = k := by
      obtain ⟨c, cs, rfl⟩ := List.exists_cons_of_length_eq_add_one (long r hr)
      exact ⟨c, cs, rfl, Nat.succ.inj (long _ hr)⟩
    have short : bs.length = k := Nat.succ.inj (long _ mem)
    have line : (records.all fun r => r.headD true) = b := by
      cases b with
      | false => exact List.all_eq_false.mpr ⟨_, mem, nofun⟩
      | true =>
        refine List.all_eq_true.mpr fun r hr => ?_
        obtain ⟨c, cs, rfl, same⟩ := split r hr
        cases c with
        | true => rfl
        | false =>
          have less := least _ hr
          have small := bitsValue_lt cs
          simp only [bitsValue_cons, Bool.toNat_true, Bool.toNat_false, same, short] at less small
          omega
    simp only [arbitrate, arbitrate_line, line]
    congr 1
    refine ih _ bs (List.mem_map.mpr ⟨_, List.mem_filter.mpr ⟨mem, by simp⟩, rfl⟩) ?_ ?_
    · intro x hx
      obtain ⟨r, hr, rfl⟩ := List.mem_map.mp hx
      obtain ⟨c, cs, rfl, same⟩ := split r (List.mem_filter.mp hr).1
      exact same
    · intro x hx
      obtain ⟨r, hr, rfl⟩ := List.mem_map.mp hx
      obtain ⟨kept, head⟩ := List.mem_filter.mp hr
      obtain ⟨c, cs, rfl, same⟩ := split r kept
      obtain rfl : c = b := by simpa using head
      have less := least _ kept
      simp only [bitsValue_cons, same, short] at less
      exact Nat.le_of_add_le_add_left less

/-! ## Identity records (R66, R67, R69) -/

theorem length_record (d : Device) : d.record.length = 8 := rfl

theorem toNat_identity (x : Identity) :
    x.toNat =
      (x.extractLsb' 40 8).toNat * 2 ^ 40 + (x.extractLsb' 32 8).toNat * 2 ^ 32 + (x.extractLsb' 24 8).toNat * 2 ^ 24 +
        (x.extractLsb' 16 8).toNat * 2 ^ 16 + (x.extractLsb' 8 8).toNat * 2 ^ 8 + (x.extractLsb' 0 8).toNat := by
  have bound := x.isLt
  simp only [BitVec.extractLsb'_toNat, Nat.shiftRight_eq_div_pow]
  omega

/-- R66, R69: a record spells its identity, its class and its check byte. -/
theorem bitsValue_record (d : Device) :
    bitsValue (bitsOf d.record) =
      d.identity.toNat * 2 ^ 16 + d.cls.toNat * 2 ^ 8 + (crc8 (identityBytes d.identity ++ [d.cls])).toNat := by
  have identity := toNat_identity d.identity
  have empty : bitsValue (bitsOf []) = 0 := rfl
  simp only [Device.record, identityBytes, List.cons_append, List.nil_append, bitsValue_bytes, List.length_cons,
    List.length_nil, empty]
  omega

/-- R67: a record's check byte is good. -/
theorem checkGood_record (d : Device) : checkGood d.record = true := by
  simp [checkGood, Device.record, identityBytes]

/-- Settles O32. -/
theorem arbitrationReadsSmallestRecord : Obligations.ArbitrationReadsSmallestRecord := by
  intro ds d mem least
  have read : arbitratedRecord ds = d.record := by
    have line : arbitrate 64 (ds.map fun d => bitsOf d.record) = bitsOf d.record := by
      refine arbitrate_smallest 64 _ _ (List.mem_map.mpr ⟨d, mem, rfl⟩) ?_ ?_
      · intro r hr
        obtain ⟨e, -, rfl⟩ := List.mem_map.mp hr
        rw [length_bitsOf, length_record]
      · intro r hr
        obtain ⟨e, he, rfl⟩ := List.mem_map.mp hr
        have mine := (crc8 (identityBytes d.identity ++ [d.cls])).isLt
        have cls := d.cls.isLt
        obtain same | less | ⟨same, less⟩ := least e he
        · exact Nat.le_of_eq (by rw [same])
        · simp only [bitsValue_record]
          omega
        · simp only [bitsValue_record, same] at mine ⊢
          omega
    have bytes := bytesOfBits_bitsOf d.record []
    rw [List.append_nil] at bytes
    rw [arbitratedRecord, line]
    exact bytes
  refine ⟨read, ?_⟩
  have heard := bytesHeard_self d.record
  rw [read, result_acked enrolRequest [true] d.record (fun i hi => by
    obtain rfl : i = 0 := by simpa [enrolRequest] using hi
    rfl)]
  have expected : enrolRequest.expected = d.record.length := rfl
  rw [expected, heard, checkGood_record]
  rfl

/-! ## Undisturbed calls (R64, R67, R71, R72, R75, R76) -/

/-- R60, R64: a header that nobody acknowledges ends the attempt at byte 1. -/
theorem result_unanswered {ds : List Device} {r : LineRequest} (nobody : addressed ds r = []) (bytes : List Byte) :
    r.result (lineAnswer ds r).1 bytes = { outcome := .noAck, failedByte := some 1, bytesRead := none, bitTimes := 11 } :=
  result_nak r 0 _ bytes (Nat.zero_le _) nofun (by simp [lineAnswer, nobody])

/-- R71, R72: what one device sends alone is read as it is, byte by byte. -/
theorem wiredAnd_alone (answer : List Byte) (i : Nat) : wiredAnd [answer] i = answer.getD i 0xFF := by
  show (255#8 : BitVec 8) &&& _ = _
  exact BitVec.allOnes_and

theorem wiredAnd_all {answer : List Byte} {k : Nat} (long : answer.length = k) :
    (List.range k).map (wiredAnd [answer]) = answer := by
  subst long
  refine List.ext_getElem (by simp) fun i h _ => ?_
  have : i < answer.length := by simpa using h
  simp [wiredAnd_alone, this]

/-- R67: a check byte that is the CRC-8 of the bytes before it. -/
theorem checkGood_appended (data : List Byte) : checkGood (data ++ [crc8 data]) = true := by
  simp [checkGood]

/-- R75: a call with every acknowledge given, whose devices send data and its check byte. -/
theorem result_checked {r : LineRequest} {acks : List Bool} {data : List Byte}
    (given : ∀ i < 1 + r.out.length, acks.getD i false = true) (call : r.call = .probe ∨ r.call = .peek)
    (long : r.expected = data.length + 1) :
    r.result acks (data ++ [crc8 data]) =
      { outcome := .done, failedByte := none, bytesRead := some data
        bitTimes := 2 + 9 * (1 + r.out.length + (data.length + 1)) } := by
  have expected : r.expected = (data ++ [crc8 data]).length := by simp [long]
  have handed : r.handedBytes (data ++ [crc8 data]) = some data := by
    rcases call with h | h <;> simp [LineRequest.handedBytes, h]
  rw [result_acked r acks _ given, expected, bytesHeard_self, checkGood_appended, handed, LineRequest.bytes, long]
  rfl

/-- Settles O33. -/
theorem undisturbedCallsRead : Obligations.UndisturbedCallsRead := by
  intro ds d h offset count run noAck
  refine ⟨fun nobody => result_unanswered nobody _, fun nobody => result_unanswered nobody _,
    fun nobody => result_unanswered nobody _, fun alone => ?_, fun alone within small one most => ?_⟩
  · have sent : (lineAnswer ds (probeRequest h)).2 = [d.status] ++ [crc8 [d.status]] := by
      simp only [lineAnswer, alone]
      exact wiredAnd_all (k := 2) rfl
    have given : ∀ i < 1 + (probeRequest h).out.length, (lineAnswer ds (probeRequest h)).1.getD i false = true := by
      intro i hi
      obtain rfl : i = 0 := by simpa [probeRequest] using hi
      simp [lineAnswer, alone]
    simp only [run]
    rw [sent, result_checked given (.inl rfl) rfl]
    rfl
  · let data := (List.range count).map fun i => d.memory.getD (offset + i) 0xFF
    have expected : (peekRequest h offset count).expected = data.length + 1 := by
      simp [LineRequest.expected, peekRequest, data, Nat.mod_eq_of_lt (show count < 256 by omega)]
    have answer : d.answer (peekRequest h offset count) = data ++ [crc8 data] := by
      simp [Device.answer, peekRequest, data, Device.dataByte, Nat.mod_eq_of_lt small,
        Nat.mod_eq_of_lt (show count < 256 by omega)]
    have first : d.acksByte (peekRequest h offset count) 0 (BitVec.ofNat 8 offset) = true := by
      simp [Device.acksByte, peekRequest, Nat.mod_eq_of_lt small, within]
    have second : d.acksByte (peekRequest h offset count) 1 (BitVec.ofNat 8 count) = true := by
      simp [Device.acksByte, peekRequest, Config.chunkLimit, Nat.mod_eq_of_lt (show count < 256 by omega), one, most]
    have acked : ackBytes (peekRequest h offset count) 0 (peekRequest h offset count).out [d] = ([true, true], [d]) := by
      show ackBytes (peekRequest h offset count) 0 [BitVec.ofNat 8 offset, BitVec.ofNat 8 count] [d] = _
      simp [ackBytes, first, second]
    have line : lineAnswer ds (peekRequest h offset count) = ([true, true, true], data ++ [crc8 data]) := by
      have sent : (List.range (peekRequest h offset count).expected).map
          (wiredAnd [d.answer (peekRequest h offset count)]) = data ++ [crc8 data] := by
        rw [answer]
        exact wiredAnd_all (by simp [expected])
      simp only [lineAnswer, alone, acked]
      exact Prod.ext rfl sent
    simp only [run]
    rw [line, result_checked (fun i hi => ?_) (.inr rfl) expected]
    · simp [data, peekRequest]
      omega
    · exact given_of_take (k := 3) rfl i hi

/-! ## Stops (R59, R63, R65, R70, R73, R74) -/

theorem length_visible (ds : List Device) : (visible ds).length = ds.length := by
  have grows (l : List Device) (above : List Bool) :
      (l.foldl (fun above d => above ++ [seeing above ds d]) above).length = above.length + l.length := by
    induction l generalizing above with
    | nil => rfl
    | cons d l ih => simp only [List.foldl_cons, ih, List.length_append, List.length_cons, List.length_nil]; omega
  simpa [visible] using grows ds []

/-- Two pairings of a population with what it sees are alike when they are alike device by device. -/
theorem zip_visible_congr {α : Type} (ds : List Device) {f g : Device × Bool → α} (h : ∀ d b, f (d, b) = g (d, b)) :
    (ds.zip (visible ds)).map f = (ds.zip (visible ds)).map g :=
  List.map_congr_left fun p _ => h p.1 p.2

theorem zip_visible_fst (ds : List Device) : (ds.zip (visible ds)).map Prod.fst = ds :=
  List.map_fst_zip (Nat.le_of_eq (length_visible ds).symm)

/-- What a device that stands like this has become after a stop. -/
theorem afterStop_eq (ds : List Device) (r : LineRequest) :
    afterStop ds r =
      (ds.zip (visible ds)).map fun p =>
        if p.2 = true ∧ p.1.standing r r.bytes (lineBits ds r) = .complete then p.1.effect r else p.1 := by
  simp only [afterStop, situated, List.map_map]
  refine zip_visible_congr ds fun d b => ?_
  cases b with
  | false => simp [Situated.stop]
  | true => simp [Situated.stop]

/-- R65: at a call's end a device that acknowledged whatever there was to acknowledge stands complete. -/
theorem standing_end (d : Device) (r : LineRequest) (heard : List Bool) (quiet : r.call ≠ .enrol) :
    d.standing r r.bytes heard = .complete ↔
      d.acksHeader r = true ∧ d.acksAll r 0 (r.out.take (r.out.length + r.expected)) = true := by
  have some : r.bytes ≠ 0 := by unfold LineRequest.bytes; omega
  have all : r.bytes - 1 = r.out.length + r.expected := by unfold LineRequest.bytes; omega
  have arbitrates : d.arbitrates r heard = true := by simp [Device.arbitrates, quiet]
  simp only [Device.standing, some, if_false, all, arbitrates, Bool.and_true, Nat.lt_irrefl]
  by_cases h : d.acksHeader r = true ∧ d.acksAll r 0 (r.out.take (r.out.length + r.expected)) = true
  · simp [h]
  · simp [h]

/-- R65: what a whole call does at its stop, by which devices it completes for. -/
theorem afterStop_completed {ds : List Device} {r : LineRequest} (quiet : r.call ≠ .enrol) {p : Device → Prop}
    [DecidablePred p] {f : Device → Device} (completes : ∀ d : Device,
      (d.acksHeader r = true ∧ d.acksAll r 0 (r.out.take (r.out.length + r.expected)) = true) ↔ p d)
    (effect : ∀ d, p d → d.effect r = f d) :
    afterStop ds r = (ds.zip (visible ds)).map fun x => if x.2 = true then (if p x.1 then f x.1 else x.1) else x.1 := by
  rw [afterStop_eq]
  refine zip_visible_congr ds fun d b => ?_
  simp only [standing_end d r _ quiet, completes]
  by_cases h : p d
  · simp [h, effect d h]
  · simp [h]

theorem afterStop_unchanged {ds : List Device} {r : LineRequest}
    (call : r.call = .enrol ∨ r.call = .probe ∨ r.call = .peek) :
    afterStop ds r = ds := by
  have kept (d : Device) : d.effect r = d := by
    unfold Device.effect
    rcases call with h | h | h <;> simp only [h]
  rw [afterStop_eq]
  simp only [kept, ite_self]
  exact zip_visible_fst ds

/-- R66: an identity's six bytes are its own. -/
theorem identityBytes_inj {x y : Identity} (h : identityBytes x = identityBytes y) : x = y := by
  have hx := toNat_identity x
  have hy := toNat_identity y
  simp only [identityBytes, List.cons.injEq, and_true] at h
  obtain ⟨h1, h2, h3, h4, h5, h6⟩ := h
  rw [h1, h2, h3, h4, h5, h6] at hx
  exact BitVec.eq_of_toNat_eq (hx.trans hy.symm)

/-- R70: a device acknowledges every byte of a BIND to a handle when it has the identity. -/
theorem acksAll_bind (d : Device) (identity : Identity) {h : Nat} (one : 1 ≤ h) (most : h ≤ 30) :
    d.acksAll (bindRequest identity h) 0 (bindRequest identity h).out = true ↔ d.identity = identity := by
  have byte : h % 256 = h := Nat.mod_eq_of_lt (by omega)
  constructor
  · intro acked
    refine identityBytes_inj ?_
    simpa [bindRequest, identityBytes, Device.acksAll, Device.acksByte, byte, one, Config.handleCount, most] using acked
  · rintro rfl
    simp [bindRequest, identityBytes, Device.acksAll, Device.acksByte, byte, one, Config.handleCount, most]

/-- R70: BIND gives its handle to every unbound device of the identity. -/
theorem afterStop_bind (ds : List Device) (identity : Identity) {h : Nat} (one : 1 ≤ h) (most : h ≤ 30) :
    afterStop ds (bindRequest identity h) =
      (ds.zip (visible ds)).map fun p =>
        if p.2 = true then (if p.1.handle = none ∧ p.1.identity = identity then { p.1 with handle := some h } else p.1)
        else p.1 := by
  refine afterStop_completed (r := bindRequest identity h) nofun (p := fun d => d.handle = none ∧ d.identity = identity)
    (f := fun d => { d with handle := some h }) (fun d => ?_) fun d _ => ?_
  · have whole : (bindRequest identity h).out.take
        ((bindRequest identity h).out.length + (bindRequest identity h).expected) = (bindRequest identity h).out := by
      exact List.take_of_length_le (Nat.le_add_right _ _)
    have header : d.acksHeader (bindRequest identity h) = true ↔ d.handle = none := by
      simp [Device.acksHeader, bindRequest]
    rw [whole, acksAll_bind d identity one most, header]
  · have byte : h % 256 = h := Nat.mod_eq_of_lt (by omega)
    simp [Device.effect, bindRequest, identityBytes, byte]

/-- R74: RELEASE powers the devices of its handle up. -/
theorem afterStop_release (ds : List Device) (h : Nat) {p : Device → Prop} [DecidablePred p]
    (header : ∀ d : Device, d.acksHeader (releaseRequest h) = true ↔ p d) :
    afterStop ds (releaseRequest h) =
      (ds.zip (visible ds)).map fun x => if x.2 = true then (if p x.1 then x.1.powerUp else x.1) else x.1 :=
  afterStop_completed (r := releaseRequest h) nofun
    (fun d => (and_iff_left rfl).trans (header d)) fun _ _ => rfl

/-- R73: LEG switches the junctions of its handle. -/
theorem afterStop_leg (ds : List Device) {h : Nat} {byte : Byte} (one : 1 ≤ h) (most : h ≤ 30) (small : byte.toNat ≤ 3) :
    afterStop ds (legRequest h byte) =
      (ds.zip (visible ds)).map fun p =>
        if p.2 = true then
          (if p.1.handle = some h ∧ p.1.cls = 1 then { p.1 with legA := byte.getLsbD 0, legB := byte.getLsbD 1 } else p.1)
        else p.1 := by
  refine afterStop_completed (r := legRequest h byte) nofun (p := fun d => d.handle = some h ∧ d.cls = 1)
    (f := fun d => { d with legA := byte.getLsbD 0, legB := byte.getLsbD 1 }) (fun d => ?_) fun d _ => ?_
  · have acked : d.acksAll (legRequest h byte) 0
        ((legRequest h byte).out.take ((legRequest h byte).out.length + (legRequest h byte).expected)) = true := by
      rw [List.take_of_length_le (Nat.le_add_right _ _)]
      simp [legRequest, Device.acksAll, Device.acksByte, small]
    rw [acked]
    simp [Device.acksHeader, legRequest, one, most, Config.handleCount, Config.junctionClass]
  · obtain rfl | rfl | rfl | rfl : byte = 0 ∨ byte = 1 ∨ byte = 2 ∨ byte = 3 := by
      have values : byte.toNat = 0 ∨ byte.toNat = 1 ∨ byte.toNat = 2 ∨ byte.toNat = 3 := by omega
      simpa [BitVec.toNat_eq] using values
    all_goals simp [Device.effect, legRequest]

/-! ## Attempts broken off (R63, R65) -/

/-- All devices of a population between a stop and a start. -/
def idleAll (ds : List Device) : List Situated := ds.map fun d => { device := d, standing := .idle }

theorem situated_device (ds : List Device) (r : LineRequest) (k : Nat) (heard : List Bool) :
    (situated ds r k heard).map Situated.device = ds := by
  rw [situated, List.map_map]
  exact zip_visible_fst ds

/-- R65, R73: a stop on a line leaves every device idle, the complete ones after the call's effect. -/
theorem seeCondition_stop (ds : List Device) (r : LineRequest) (k : Nat) (heard : List Bool) :
    seeCondition r .stop (situated ds r k heard) =
      idleAll ((ds.zip (visible ds)).map fun p =>
        if p.2 = true ∧ p.1.standing r k heard = .complete then p.1.effect r else p.1) := by
  have long : (visible ds).length = ds.length := length_visible ds
  simp only [seeCondition, situated_device]
  refine List.ext_getElem (by simp [situated, idleAll, long]) fun i _ hi => ?_
  have : i < (visible ds).length := by
    simp only [idleAll, List.length_map, List.length_zip] at hi
    omega
  simp only [situated, idleAll, List.getElem_map, List.getElem_zip]
  cases (visible ds)[i] with
  | false => simp
  | true => simp [Situated.sees, Situated.stop]

/-- R65: a stop before the last acknowledge leaves every device as it was. -/
theorem seeCondition_early (ds : List Device) {r : LineRequest} {k : Nat} (early : k < r.bytes) (heard : List Bool) :
    seeCondition r .stop (situated ds r k heard) = idleAll ds := by
  have unfinished (d : Device) : d.standing r k heard ≠ .complete := by
    unfold Device.standing
    split
    · exact nofun
    · split
      · simp
      · exact nofun
  rw [seeCondition_stop]
  simp only [unfinished, and_false, if_false]
  rw [zip_visible_fst ds]

/-- R65: a stop after the last acknowledge is the call's own. -/
theorem seeCondition_late (ds : List Device) (r : LineRequest) :
    seeCondition r .stop (situated ds r r.bytes (lineBits ds r)) = idleAll (afterStop ds r) := by
  rw [seeCondition_stop, afterStop_eq]

/-- R76: the bits that devices send in a call are those of its device bits. -/
theorem length_lineBits (ds : List Device) (r : LineRequest) : (lineBits ds r).length = 8 * r.expected := by
  have many (k : Nat) (records : List (List Bool)) : (arbitrate k records).length = k := by
    induction k generalizing records with
    | zero => rfl
    | succ k ih => simp [arbitrate, ih]
  rw [lineBits, length_bitsOf]
  simp only [lineAnswer]
  cases call : r.call <;> simp [LineRequest.expected, call, arbitratedRecord, bytesOfBits]

theorem deviceBits_body (r : LineRequest) : (r.body.filter fun x => x.use == .deviceBit).length = 8 * r.expected := by
  have sent (p : EnginePhase) (i : Nat) (b : Byte) : (sentByte p i b).filter (fun x => x.use == .deviceBit) = [] := by
    rw [List.filter_eq_nil_iff]
    intro x hx
    simp only [sentByte, List.mem_append, List.mem_map, List.mem_singleton] at hx
    obtain ⟨b, -, rfl⟩ | rfl := hx <;> simp
  have sents (p : EnginePhase) (i : Nat) (bs : List Byte) :
      (sentBytes p i bs).filter (fun x => x.use == .deviceBit) = [] := by
    induction bs generalizing i with
    | nil => rfl
    | cons b bs ih => rw [sentBytes, List.filter_append, sent, ih]; rfl
  have heard (p : EnginePhase) (k : Nat) : ((heardBytes p k).filter fun x => x.use == .deviceBit).length = 8 * k := by
    induction k with
    | zero => rfl
    | succ k ih => simp [heardBytes, ih]; omega
  simp [LineRequest.body, sent, sents, heard]

/-- R57, R76: bits of the devices in an attempt that stands behind its last acknowledge are all on the line. -/
theorem take_bitsClocked (ds : List Device) (r : LineRequest) {slot : Nat} {levels : List Levels}
    (late : 1 + 9 * r.bytes ≤ slot)
    (high : levels.any Levels.lck = true) : (lineBits ds r).take (bitsClocked r slot levels) = lineBits ds r := by
  have all : r.body.take slot = r.body := List.take_of_length_le (by rw [length_body]; exact late)
  refine List.take_of_length_le ?_
  simp only [bitsClocked, high, if_true, all, deviceBits_body, length_lineBits, Nat.le_refl]

theorem bytesClocked_early {r : LineRequest} {slot : Nat} {levels : List Levels} (early : slot < 1 + 9 * r.bytes) :
    bytesClocked slot levels < r.bytes := by
  have some : 1 ≤ r.bytes := by unfold LineRequest.bytes; omega
  unfold bytesClocked
  split <;> omega

theorem bytesClocked_late {r : LineRequest} {slot : Nat} {levels : List Levels}
    (late : slot = 1 + 9 * r.bytes ∨ slot = 2 + 9 * r.bytes) (high : levels.any Levels.lck = true) :
    bytesClocked slot levels = r.bytes := by
  have some : 1 ≤ r.bytes := by unfold LineRequest.bytes; omega
  simp only [bytesClocked, high, and_true]
  split <;> omega

section

variable {ds : List Device} {r : LineRequest} {slot : Nat} {trail : List (WireStage × DeviceDrives)}

theorem afterBreak_early (early : slot < 1 + 9 * r.bytes)
    (stops : ∀ xs, seeWires r (trail.map fun p => p.1.levels p.2) xs = seeCondition r .stop xs) :
    afterBreak ds r slot trail = idleAll ds := by
  rw [afterBreak, stops]
  exact seeCondition_early ds (bytesClocked_early early) _

theorem afterBreak_late (late : slot = 1 + 9 * r.bytes ∨ slot = 2 + 9 * r.bytes)
    (high : (trail.map fun p => p.1.levels p.2).any Levels.lck = true)
    (stops : ∀ xs, seeWires r (trail.map fun p => p.1.levels p.2) xs = seeCondition r .stop xs) :
    afterBreak ds r slot trail = idleAll (afterStop ds r) := by
  rw [afterBreak, stops]
  have behind : 1 + 9 * r.bytes ≤ slot := by omega
  simp only [bytesClocked_late late high, take_bitsClocked ds r behind high]
  exact seeCondition_late ds r

end

theorem length_visible_devices (xs : List Situated) : (visible (xs.map Situated.device)).length = xs.length := by
  rw [length_visible, List.length_map]

/-- R65: a start changes no device, and each that sees the line reads a header. -/
theorem seeCondition_start_device (r : LineRequest) (xs : List Situated) :
    (seeCondition r .start xs).map Situated.device = xs.map Situated.device := by
  have kept : (Situated.device ∘ fun p : Situated × Bool => if p.2 = true then p.1.sees r .start else p.1) =
      Situated.device ∘ Prod.fst := by
    funext p
    simp only [Function.comp]
    split <;> rfl
  rw [seeCondition, List.map_map, kept, ← List.map_map, List.map_fst_zip (Nat.le_of_eq (length_visible_devices xs).symm)]

/-- R63, R65: the closing stop leaves every device that sees the line idle. -/
theorem seeWires_closing (r : LineRequest) (xs : List Situated) :
    seeWires r (closingStopStages.map fun y => y.levels { lck := .released, lda := .released }) xs =
      (xs.zip (visible (xs.map Situated.device))).map fun p => if p.2 = true then { p.1 with standing := .idle } else p.1 := by
  have wires : seeWires r (closingStopStages.map fun y => y.levels { lck := .released, lda := .released }) xs =
      seeCondition r .stop (seeCondition r .start xs) := rfl
  have long := length_visible_devices xs
  rw [wires, seeCondition, seeCondition_start_device]
  refine List.ext_getElem (by simp [seeCondition, long]) fun i _ hi => ?_
  have : i < (visible (xs.map Situated.device)).length := by
    simp only [List.length_map, List.length_zip] at hi
    omega
  simp only [seeCondition, List.getElem_map, List.getElem_zip]
  cases (visible (xs.map Situated.device))[i] with
  | false => simp
  | true => simp [Situated.sees, Situated.stop, Situated.start]

/-- R54, R57: the part's release of LDA under an LCK that reads HIGH makes a stop. -/
theorem seeWires_release {x : WireStage} (lck : x.lck = .released) (lda : x.lda = .low) (r : LineRequest)
    (xs : List Situated) :
    seeWires r [x.levels ⟨.released, .released⟩, WireStage.levels ⟨.closing, .released, .released⟩ ⟨.released, .released⟩] xs =
      seeCondition r .stop xs := by
  have before : x.levels ⟨.released, .released⟩ = ⟨true, false⟩ := by simp [WireStage.levels, lck, lda, wireHigh]
  rw [before]
  rfl

/-- R54, R57: where LCK reads LOW, or LDA does not rise, the release makes none. -/
theorem seeWires_unreleased {x : WireStage} {held : DeviceDrives}
    (quiet : x.lck = .low ∨ x.lda = .released ∨ held.lck = .low ∨ held.lda = .low) (r : LineRequest) (xs : List Situated) :
    seeWires r [x.levels held, WireStage.levels ⟨.closing, .released, .released⟩ held] xs = xs := by
  have none : (x.levels held).condition (WireStage.levels ⟨.closing, .released, .released⟩ held) = none := by
    obtain lck | lda | lck | lda := quiet
    · exact condition_of_clock_low (.inl (by simp [WireStage.levels, lck, wireHigh]))
    · exact condition_of_data_kept (by simp [WireStage.levels, lda])
    · exact condition_of_clock_low (.inl (by simp [WireStage.levels, lck, wireHigh]))
    · exact condition_of_data_kept (by simp [WireStage.levels, lda, wireHigh])
  rw [seeWires_quiet none]
  rfl

/-- Settles O34. -/
theorem stopsActOnCompleteDevices : Obligations.StopsActOnCompleteDevices := by
  intro ds identity h slot byte r x held xs one most small eachSeen dropped idle free holdsLck holdsLda released atStop
  have header31 (d : Device) : d.acksHeader (releaseRequest 31) = true ↔ ¬d.handle = none := by
    simp [Device.acksHeader, releaseRequest, Config.allHandle, Option.isSome_iff_ne_none]
  have header (d : Device) : d.acksHeader (releaseRequest h) = true ↔ d.handle = some h := by
    have : h ≠ 31 := by omega
    simp [Device.acksHeader, releaseRequest, Config.allHandle, Config.handleCount, this, one, most]
  have last : atStop = 1 + 9 * r.bytes ∨ atStop = 2 + 9 * r.bytes := .inr rfl
  refine ⟨afterStop_bind ds identity one most, ?_, afterStop_release ds h header, afterStop_leg ds one most small,
    afterStop_unchanged, fun lck lda => ⟨fun early => ?_, fun late => ?_⟩, fun quiet => ?_, ?_, ?_, ?_, seeWires_closing r xs⟩
  · rw [afterStop_release ds 31 header31]
    simp only [ite_not]
    rfl
  · exact afterBreak_early (by omega) (seeWires_release lck lda r)
  · refine afterBreak_late (by omega) ?_ (seeWires_release lck lda r)
    simp [WireStage.levels, wireHigh, free, released]
  · show List.map _ (seeWires r [x.levels held, released.levels held] _) = ds
    rw [seeWires_unreleased quiet, situated_device]
  · exact afterBreak_late last rfl fun _ => rfl
  · exact afterBreak_late last rfl fun _ => rfl
  · have begun (k : Nat) (heard : List Bool) : seeWires r
        ([(⟨.stop, .low, .low⟩ : WireStage).levels free, (⟨.stop, .released, .low⟩ : WireStage).levels holdsLck,
          released.levels holdsLck] ++ closingStopStages.map fun y => y.levels free) (situated ds r k heard) =
        seeWires r (closingStopStages.map fun y => y.levels free) (situated ds r k heard) := rfl
    have seen : afterBreak ds r atStop
          ([(⟨.stop, .low, .low⟩, free), (⟨.stop, .released, .low⟩, holdsLck), (released, holdsLck)] ++
            closingStopStages.map fun y => (y, free)) =
        seeWires r (closingStopStages.map fun y => y.levels free) _ := begun _ _
    rw [seen, seeWires_closing, situated_device]
    refine List.ext_getElem (by simp [situated, idle, length_visible]) fun i _ hi => ?_
    have : i < (visible ds).length := by
      rw [length_visible]
      simpa [idle] using hi
    simp only [situated, idle, List.getElem_map, List.getElem_zip]
    cases (visible ds)[i] <;> simp

end Sys2Proof.Machine
end

section
/-!
The slots of an attempt by byte and place, the stages through which it takes the wires, and the slots in which it can break
(R54, R56 to R60, R62, R68, R70 to R74, R76, R77).
-/

namespace Sys2Proof.Machine

/-! ## The slot at a place (R57, R60) -/

/-- The byte that the part sends at a position, the header's being 0. -/
def LineRequest.sent (r : LineRequest) (i : Nat) : Byte := (r.header :: r.out).getD i 0

/-- R60, R77: the phase that covers a byte of a call. -/
def LineRequest.bytePhase (r : LineRequest) (i : Nat) : EnginePhase :=
  if i = 0 then .header else if i ≤ r.out.length then .callOut else r.inPhase

/-- R57, R60: what slot j of byte i of a call is for. -/
def LineRequest.byteUse (r : LineRequest) (i j : Nat) : SlotUse :=
  if i ≤ r.out.length then (if j < 8 then .partBit ((r.sent i).getLsbD (7 - j)) else .deviceAck (i + 1))
  else (if j < 8 then .deviceBit else .partAck (i + 1 != r.bytes))

theorem sentByte_place (p : EnginePhase) (position : Nat) (b : Byte) {j : Nat} (h : j < 9) :
    (sentByte p position b)[j]? =
      some ⟨p, if j < 8 then .partBit (b.getLsbD (7 - j)) else .deviceAck position⟩ := by
  obtain rfl | rfl | rfl | rfl | rfl | rfl | rfl | rfl | rfl := lt_nine_cases h <;> rfl

theorem sentBytes_place (p : EnginePhase) (bs : List Byte) (position : Nat) {i j : Nat} (hi : i < bs.length) (hj : j < 9) :
    (sentBytes p position bs)[9 * i + j]? =
      some ⟨p, if j < 8 then .partBit ((bs.getD i 0).getLsbD (7 - j)) else .deviceAck (position + i)⟩ := by
  induction bs generalizing position i with
  | nil => exact absurd hi (Nat.not_lt_zero _)
  | cons b bs ih =>
    have nine : (sentByte p position b).length = 9 := rfl
    cases i with
    | zero => rw [sentBytes, List.getElem?_append_left (by omega), Nat.mul_zero, Nat.zero_add,
        sentByte_place p position b hj]; rfl
    | succ i =>
      rw [sentBytes, List.getElem?_append_right (by omega), nine, show 9 * (i + 1) + j - 9 = 9 * i + j by omega,
        ih (position + 1) (by simpa using hi), show position + 1 + i = position + (i + 1) by omega]
      rfl

theorem heardBytes_place (p : EnginePhase) (k : Nat) {i j : Nat} (hi : i < k) (hj : j < 9) :
    (heardBytes p k)[9 * i + j]? = some ⟨p, if j < 8 then .deviceBit else .partAck (i + 1 != k)⟩ := by
  induction k generalizing i with
  | zero => exact absurd hi (Nat.not_lt_zero _)
  | succ k ih =>
    have bits : (List.replicate 8 (⟨p, .deviceBit⟩ : LineSlot)).length = 8 := rfl
    cases i with
    | zero =>
      obtain rfl | rfl | rfl | rfl | rfl | rfl | rfl | rfl | rfl := lt_nine_cases hj <;> simp [heardBytes]
    | succ i =>
      rw [heardBytes, List.getElem?_append_right (by omega), bits, show 9 * (i + 1) + j - 8 = (9 * i + j) + 1 by omega,
        List.getElem?_cons_succ, ih (by omega)]
      simp

/-- R76, R77: the slot at each place of a call. -/
theorem body_place (r : LineRequest) {i j : Nat} (hi : i < r.bytes) (hj : j < 9) :
    r.body[1 + (9 * i + j)]? = some ⟨r.bytePhase i, r.byteUse i j⟩ := by
  have header : (sentByte .header 1 r.header).length = 9 := rfl
  have sents := length_sentBytes .callOut 2 r.out
  rw [LineRequest.body, Nat.add_comm 1, List.getElem?_cons_succ]
  unfold LineRequest.bytes at hi
  cases i with
  | zero =>
    rw [List.getElem?_append_left (by omega), Nat.mul_zero, Nat.zero_add, sentByte_place _ _ _ hj]
    simp [LineRequest.bytePhase, LineRequest.byteUse, LineRequest.sent]
  | succ i =>
    rw [List.getElem?_append_right (by omega), header, show 9 * (i + 1) + j - 9 = 9 * i + j by omega]
    by_cases own : i < r.out.length
    · have own' : i + 1 ≤ r.out.length := own
      rw [List.getElem?_append_left (by omega), sentBytes_place _ _ _ own hj]
      simp [LineRequest.bytePhase, LineRequest.byteUse, LineRequest.sent, own', Nat.add_comm, Nat.add_left_comm]
    · have heard : ¬i + 1 ≤ r.out.length := own
      have position : (i - r.out.length + 1 != r.expected) = (i + 1 + 1 != r.bytes) := by
        rw [Bool.eq_iff_iff, bne_iff_ne, bne_iff_ne, LineRequest.bytes]
        omega
      rw [List.getElem?_append_right (by omega), sents,
        show 9 * i + j - 9 * r.out.length = 9 * (i - r.out.length) + j by omega,
        heardBytes_place _ _ (by omega) hj, position]
      simp [LineRequest.bytePhase, LineRequest.byteUse, heard]

theorem body_start (r : LineRequest) : r.body[0]? = some ⟨.start, .start⟩ := rfl

/-- Every slot between the start and the stop is a bit slot. -/
theorem byteUse_isBit (r : LineRequest) (i j : Nat) : (r.byteUse i j).isBit = true := by
  unfold LineRequest.byteUse
  split <;> split <;> rfl

/-! ## The slots in which an attempt can break (R56 to R60, R62, R76) -/

section

variable (r : LineRequest) (slot : Nat)

theorem length_slots : r.slots.length = 2 + 9 * r.bytes := by
  simp [LineRequest.slots, length_body]
  omega

/-- The slots before a stop slot: the start, and nine for each byte. -/
theorem slotAt_body (slot : Nat) :
    (r.slotAt slot false = some ⟨.start, .start⟩ ∧ slot = 1) ∨
      (∃ i j, slot = 2 + 9 * i + j ∧ i < r.bytes ∧ j < 9 ∧ r.slotAt slot false = some ⟨r.bytePhase i, r.byteUse i j⟩) ∨
      (r.slotAt slot false = none ∧ (slot = 0 ∨ 2 + 9 * r.bytes ≤ slot)) := by
  obtain rfl | rfl | within | beyond : slot = 0 ∨ slot = 1 ∨ (2 ≤ slot ∧ slot < 2 + 9 * r.bytes) ∨ 2 + 9 * r.bytes ≤ slot := by
    omega
  · exact .inr (.inr ⟨rfl, .inl rfl⟩)
  · exact .inl ⟨rfl, rfl⟩
  · refine .inr (.inl ⟨(slot - 2) / 9, (slot - 2) % 9, by omega, by omega, Nat.mod_lt _ (by decide), ?_⟩)
    have place := body_place r (i := (slot - 2) / 9) (j := (slot - 2) % 9) (by omega) (Nat.mod_lt _ (by decide))
    rw [show 1 + (9 * ((slot - 2) / 9) + (slot - 2) % 9) = slot - 1 by omega] at place
    simp only [LineRequest.slotAt, Bool.false_eq_true, if_false]
    rw [if_neg (by omega), place]
  · refine .inr (.inr ⟨?_, .inr beyond⟩)
    have none : r.body[slot - 1]? = none := List.getElem?_eq_none (by rw [length_body]; omega)
    simp only [LineRequest.slotAt, Bool.false_eq_true, if_false]
    rw [if_neg (by omega), none]

theorem mem_stopPlaces :
    slot ∈ r.stopPlaces ↔ slot = 2 + 9 * r.bytes ∨ ∃ i, 1 ≤ i ∧ i ≤ 1 + r.out.length ∧ slot = 2 + 9 * i := by
  simp only [LineRequest.stopPlaces, List.mem_append, List.mem_map, List.mem_range, List.mem_singleton, length_slots]
  rw [or_comm]
  refine or_congr_right ⟨?_, ?_⟩
  · rintro ⟨i, hi, rfl⟩
    exact ⟨i + 1, by omega, by omega, rfl⟩
  · rintro ⟨i, one, hi, rfl⟩
    exact ⟨i - 1, by omega, by omega⟩

theorem slotAt_stop : (r.slotAt slot true).isSome = true ↔ slot ∈ r.stopPlaces := by
  simp only [LineRequest.slotAt, if_true, List.contains_iff_mem]
  split <;> simp_all

/-- R58: an attempt can stall where it has a slot that waits for high. -/
theorem stalled_isSome (stopping : Bool) :
    (r.stalled slot stopping).isSome = true ↔ ∃ x, r.slotAt slot stopping = some x ∧ x.use.stalls = true := by
  unfold LineRequest.stalled
  cases r.slotAt slot stopping with
  | none => simp
  | some x => by_cases h : x.use.stalls <;> simp [h]

/-- R62: an attempt can collide where it has a slot that the line can depart in so. -/
theorem collided_isSome (cause : CollisionCause) :
    (r.collided slot cause).isSome = true ↔
      ∃ x, r.slotAt slot (cause == .heldAtStop) = some x ∧ x.use.collides cause = true := by
  unfold LineRequest.collided
  cases r.slotAt slot (cause == .heldAtStop) with
  | none => simp
  | some x => by_cases h : x.use.collides cause <;> simp [h]

/-- What holds of the use of some slot before the stop holds of the start or of a place in a byte. -/
theorem exists_slotAt {p : SlotUse → Prop} :
    (∃ x, r.slotAt slot false = some x ∧ p x.use) ↔
      (slot = 1 ∧ p .start) ∨ ∃ i j, slot = 2 + 9 * i + j ∧ i < r.bytes ∧ j < 9 ∧ p (r.byteUse i j) := by
  constructor
  · rintro ⟨x, hx, use⟩
    obtain ⟨start, rfl⟩ | ⟨i, j, rfl, hi, hj, place⟩ | ⟨none, -⟩ := slotAt_body r slot
    · obtain rfl := Option.some.inj (start.symm.trans hx)
      exact .inl ⟨rfl, use⟩
    · obtain rfl := Option.some.inj (place.symm.trans hx)
      exact .inr ⟨i, j, rfl, hi, hj, use⟩
    · exact absurd (none.symm.trans hx) nofun
  · obtain ⟨start, rfl⟩ | ⟨i, j, rfl, hi, hj, place⟩ | ⟨none, out⟩ := slotAt_body r slot
    · rintro (⟨-, use⟩ | ⟨i, j, same, -⟩)
      · exact ⟨_, start, use⟩
      · omega
    · rintro (⟨same, -⟩ | ⟨i', j', same, -, hj', use⟩)
      · omega
      · obtain rfl : i' = i := by omega
        obtain rfl : j' = j := by omega
        exact ⟨_, place, use⟩
    · rintro (⟨same, -⟩ | ⟨i, j, same, hi, hj, -⟩) <;> omega

end

/-- R62: the bits of a call whose value the part checks: a 1 that it sends, and its NAK. -/
theorem byteUse_checked (r : LineRequest) {i j : Nat} (hj : j < 9) :
    (r.byteUse i j).checked = true ↔
      (i ≤ r.out.length ∧ j < 8 ∧ (r.sent i).getLsbD (7 - j) = true) ∨ (r.out.length < i ∧ j = 8 ∧ i + 1 = r.bytes) := by
  unfold LineRequest.byteUse
  by_cases own : i ≤ r.out.length
  · by_cases bit : j < 8
    · simp [own, bit, SlotUse.checked, Nat.not_lt.mpr own]
    · simp [own, bit, SlotUse.checked, Nat.not_lt.mpr own]
  · by_cases bit : j < 8
    · have : j ≠ 8 := by omega
      simp [own, bit, SlotUse.checked, this]
    · have : j = 8 := by omega
      simp [own, this, SlotUse.checked]
      omega

/-- Settles O28, by the place that a slot number stands for. -/
theorem attemptsBreakInTheirSlots : Obligations.AttemptsBreakInTheirSlots := by
  intro r slot heard k sent inBits atStop can
  have expected : heard = r.expected := rfl
  have bytes : k = r.bytes := by simp only [k, LineRequest.bytes, expected]
  have within : inBits ↔ ∃ i j, slot = 2 + 9 * i + j ∧ i < r.bytes ∧ j < 9 := by
    simp only [inBits, bytes]
    exact ⟨fun h => ⟨(slot - 2) / 9, (slot - 2) % 9, by omega, by omega, Nat.mod_lt _ (by decide)⟩,
      fun ⟨i, j, h⟩ => by omega⟩
  have stop : atStop ↔ slot ∈ r.stopPlaces := by simp only [atStop, bytes, mem_stopPlaces]
  have stopping {p : SlotUse → Prop} (own : p .stop) : (∃ x, r.slotAt slot true = some x ∧ p x.use) ↔ atStop := by
    rw [stop, ← slotAt_stop, Option.isSome_iff_exists]
    refine exists_congr fun x => and_iff_left_of_imp fun h => ?_
    obtain rfl : x = stopSlot := by
      simp only [LineRequest.slotAt, if_true] at h
      split at h
      · exact (Option.some.inj h).symm
      · exact absurd h nofun
    exact own
  refine ⟨bytes ▸ length_slots r, ?_, ?_, ?_, ?_, ?_, ?_⟩
  · simp only [can, stalled_isSome]
    refine (exists_slotAt r slot (p := fun u => u.stalls = true)).trans ?_
    simp only [within, SlotUse.stalls, byteUse_isBit]
    simp [SlotUse.isBit]
  · simp only [can, stalled_isSome, stopping (p := fun u => u.stalls = true) rfl]
  · simp only [can, collided_isSome]
    refine (exists_slotAt r slot (p := fun u => u.collides .clockLow = true)).trans ?_
    have never (i j : Nat) : (r.byteUse i j == .start) = false := by
      unfold LineRequest.byteUse
      split <;> split <;> rfl
    simp [SlotUse.collides, never]
  · simp only [can, collided_isSome]
    refine (exists_slotAt r slot (p := fun u => u.collides .changed = true)).trans ?_
    simp only [within, SlotUse.collides, byteUse_isBit]
    simp [SlotUse.isBit]
  · simp only [can, collided_isSome]
    exact stopping (p := fun u => u.collides .heldAtStop = true) rfl
  · simp only [can, collided_isSome]
    refine (exists_slotAt r slot (p := fun u => u.collides .readLow = true)).trans ?_
    have one : r.out.length < r.bytes := by unfold LineRequest.bytes; omega
    constructor
    · rintro (⟨-, start⟩ | ⟨i, j, rfl, hi, hj, use⟩)
      · exact absurd start nofun
      · obtain ⟨own, bit, high⟩ | ⟨other, rfl, last⟩ := (byteUse_checked r hj).mp use
        · exact .inl ⟨i, own, j, bit, rfl, high⟩
        · refine .inr ⟨?_, by omega⟩
          unfold LineRequest.bytes at last
          omega
    · rintro (⟨i, own, j, bit, rfl, high⟩ | ⟨some, rfl⟩)
      · exact .inr ⟨i, j, rfl, by omega, by omega, (byteUse_checked r (by omega)).mpr (.inl ⟨own, bit, high⟩)⟩
      · have most : r.out.length + 1 < r.bytes := by unfold LineRequest.bytes; omega
        exact .inr ⟨r.bytes - 1, 8, by omega, by omega, by decide,
          (byteUse_checked r (by decide)).mpr (.inr ⟨by omega, rfl, by omega⟩)⟩

/-! ## The stages of an attempt (R56, R57, R59) -/

/-- R57, R60: what the part drives on LDA throughout a bit slot. -/
def SlotUse.lda : SlotUse → Drive
  | .partBit b => lowIf !b
  | .partAck ack => lowIf ack
  | .deviceBit | .deviceAck _ | .start | .stop => .released

theorem stages_bit {x : LineSlot} (h : x.use.isBit = true) : x.stages = bitStages x.phase x.use.lda := by
  obtain ⟨p, use⟩ := x
  cases use <;> first | rfl | exact absurd h nofun

theorem flatMap_stages {l : List LineSlot} (bits : ∀ x ∈ l, x.use.isBit = true) :
    l.flatMap LineSlot.stages = l.flatMap fun x => bitStages x.phase x.use.lda :=
  gathers_same fun x hx => stages_bit (bits x hx)

theorem length_flatMap_bits (l : List LineSlot) :
    (l.flatMap fun x => bitStages x.phase x.use.lda).length = 2 * l.length := by
  induction l with
  | nil => rfl
  | cons x l ih =>
    have two : (bitStages x.phase x.use.lda).length = 2 := rfl
    rw [List.flatMap_cons, List.length_append, ih, two, List.length_cons]
    omega

theorem flatMap_bits_place (l : List LineSlot) {m : Nat} {x : LineSlot} (h : l[m]? = some x) :
    (l.flatMap fun x => bitStages x.phase x.use.lda)[2 * m]? = some ⟨x.phase, .low, x.use.lda⟩ ∧
      (l.flatMap fun x => bitStages x.phase x.use.lda)[2 * m + 1]? = some ⟨x.phase, .released, x.use.lda⟩ := by
  induction l generalizing m with
  | nil => exact absurd h nofun
  | cons y l ih =>
    cases m with
    | zero =>
      obtain rfl : y = x := by simpa using h
      exact ⟨rfl, rfl⟩
    | succ m => simpa [bitStages, Nat.mul_add] using ih (by simpa using h)

/-- R57, R60: what the part drives on LDA in slot j of byte i. -/
theorem byteUse_lda (r : LineRequest) {i j : Nat} (hi : i < r.bytes) (hj : j < 9) :
    (r.byteUse i j).lda =
      if i ≤ r.out.length then (if j < 8 ∧ (r.sent i).getLsbD (7 - j) = false then .low else .released)
      else if j = 8 ∧ i + 1 < r.bytes then .low else .released := by
  unfold LineRequest.byteUse
  by_cases own : i ≤ r.out.length
  · by_cases bit : j < 8
    · cases h : (r.sent i).getLsbD (7 - j) <;> simp [own, bit, SlotUse.lda, lowIf]
    · simp [own, bit, SlotUse.lda]
  · by_cases bit : j < 8
    · have : j ≠ 8 := by omega
      simp [own, bit, this, SlotUse.lda]
    · obtain rfl : j = 8 := by omega
      by_cases last : i + 1 = r.bytes
      · simp [own, last, SlotUse.lda, lowIf]
      · have more : i + 1 < r.bytes := by omega
        have acked : (i + 1 != r.bytes) = true := by simpa using last
        simp [own, acked, more, SlotUse.lda, lowIf]

/-- R56, R57, R59: the stages of an attempt that ran some whole bytes and its stop slot. -/
theorem stages_place (r : LineRequest) {whole : Nat} (most : whole ≤ r.bytes) :
    let d := (r.body.take (1 + 9 * whole) ++ [stopSlot]).flatMap LineSlot.stages
    d.take 1 = [⟨.start, .released, .low⟩] ∧
    (∀ i < whole, ∀ j < 9,
      d[1 + 2 * (9 * i + j)]? = some ⟨r.bytePhase i, .low, (r.byteUse i j).lda⟩ ∧
        d[2 + 2 * (9 * i + j)]? = some ⟨r.bytePhase i, .released, (r.byteUse i j).lda⟩) ∧
    d.drop (1 + 18 * whole) = [⟨.stop, .low, .low⟩, ⟨.stop, .released, .low⟩, ⟨.stop, .released, .released⟩] := by
  have long : r.body.tail.length = 9 * r.bytes := by rw [List.length_tail, length_body]; omega
  have bits : ∀ x ∈ r.body.tail.take (9 * whole), x.use.isBit = true := by
    intro x hx
    obtain ⟨m, hm, rfl⟩ := List.mem_iff_getElem.mp (List.mem_of_mem_take hx)
    have place := body_place r (i := m / 9) (j := m % 9) (by omega) (Nat.mod_lt _ (by decide))
    rw [show 9 * (m / 9) + m % 9 = m by omega, Nat.add_comm, ← List.getElem?_tail] at place
    rw [(List.getElem?_eq_some_iff.mp place).2]
    exact byteUse_isBit r _ _
  have whole_length : (r.body.tail.take (9 * whole)).length = 9 * whole := by
    rw [List.length_take, long]
    omega
  have stages : (r.body.take (1 + 9 * whole) ++ [stopSlot]).flatMap LineSlot.stages =
      ⟨.start, .released, .low⟩ ::
        ((r.body.tail.take (9 * whole)).flatMap fun x => bitStages x.phase x.use.lda) ++ stopSlot.stages := by
    rw [← flatMap_stages bits, Nat.add_comm 1]
    simp [LineRequest.body, LineSlot.stages, stopSlot]
  simp only [stages]
  have size := length_flatMap_bits (r.body.tail.take (9 * whole))
  refine ⟨rfl, fun i hi j hj => ?_, ?_⟩
  · have place : (r.body.tail.take (9 * whole))[9 * i + j]? = some ⟨r.bytePhase i, r.byteUse i j⟩ := by
      rw [List.getElem?_take_of_lt (by omega), List.getElem?_tail, Nat.add_comm]
      exact body_place r (by omega) hj
    obtain ⟨low, high⟩ := flatMap_bits_place _ place
    rw [List.cons_append, Nat.add_comm 1, List.getElem?_cons_succ, List.getElem?_append_left (by omega), low,
      show 2 + 2 * (9 * i + j) = 2 * (9 * i + j) + 1 + 1 by omega, List.getElem?_cons_succ,
      List.getElem?_append_left (by omega), high]
    exact ⟨rfl, rfl⟩
  · rw [List.cons_append, Nat.add_comm 1, List.drop_succ_cons, List.drop_append_of_le_length (by omega),
      List.drop_of_length_le (by omega)]
    rfl

end Sys2Proof.Machine
end

section
/-!
The device table's structure (R116, R117, R120 to R124, R138, R166) as an invariant of the table, the loss count and the
lanes' pending bindings, and the writes that keep it.
-/

namespace Sys2Proof.Machine

/-! ## The invariant on what it speaks of -/

/-- R116: whether a pending binding reserves a handle and a slot. -/
def reservesBy (b : Option PendingBinding) : Bool :=
  match b with
  | some b => b.kind == .new
  | none => false

/-- R116: the slots that pending bindings reserve. -/
def reservedBy (bind : Lane → Option PendingBinding) : Nat := (Lane.all.filter fun m => reservesBy (bind m)).length

/-- The table's invariant (`TableInv`) on the table, the loss count and the pending bindings. -/
structure TableKeeps (loss : Nat) (t : DeviceTable) (bind : Lane → Option PendingBinding) : Prop where
  entries : ∀ e ∈ t.entries, EntryInv loss e
  ordered : t.entries.Pairwise fun a b => a.key.before b.key = true
  identities : t.entries.Pairwise fun a b => a.key.lane = b.key.lane → a.identity ≠ b.identity
  room : t.entries.length + reservedBy bind ≤ Config.tableSlots
  awayOnce : t.away.Nodup
  away : ∀ k, k ∈ t.away ↔ ∃ e ∈ t.entries, e.key = k ∧ e.state = .away
  reservations : ∀ n b, bind n = some b → b.kind = .new →
    1 ≤ b.handle ∧ b.handle ≤ Config.handleCount ∧
      ∀ e ∈ t.entries, e.key.lane = n → e.key.handle ≠ b.handle ∧ e.identity ≠ b.identity

/-- The lanes' pending bindings. -/
def State.bindings (s : State) (n : Lane) : Option PendingBinding := (s.col n).walk.binding

theorem reserves_eq (w : WalkUnit) : w.reserves = reservesBy w.binding := by
  unfold WalkUnit.reserves reservesBy
  cases w.binding <;> rfl

theorem reserved_eq (s : State) : s.reserved = reservedBy s.bindings := by
  simp only [State.reserved, reserves_eq]
  rfl

theorem tableInv_iff (s : State) : TableInv s ↔ TableKeeps s.settings.lossCount s.table s.bindings :=
  ⟨fun h => ⟨h.entries, h.ordered, h.identities, reserved_eq s ▸ h.room, h.awayOnce, h.away, h.reservations⟩,
    fun h => ⟨h.entries, h.ordered, h.identities, (reserved_eq s).symm ▸ h.room, h.awayOnce, h.away, h.reservations⟩⟩

/-! ## Reporting order (R130) -/

theorem before_iff (a b : EntryKey) :
    a.before b = true ↔ a.lane.number < b.lane.number ∨ (a.lane = b.lane ∧ a.handle < b.handle) := by
  have number : a.lane.number = b.lane.number ↔ a.lane = b.lane :=
    ⟨fun h => by cases ha : a.lane <;> cases hb : b.lane <;> simp_all [Lane.number], fun h => by rw [h]⟩
  simp [EntryKey.before, number]

theorem before_irrefl (a : EntryKey) : ¬a.before a = true := by simp [before_iff]

theorem before_trans {a b c : EntryKey} (h : a.before b = true) (k : b.before c = true) : a.before c = true := by
  rw [before_iff] at *
  obtain h | ⟨hl, h⟩ := h <;> obtain k | ⟨kl, k⟩ := k
  · exact .inl (by omega)
  · exact .inl (kl ▸ h)
  · exact .inl (hl ▸ k)
  · exact .inr ⟨hl.trans kl, by omega⟩

/-- Two keys are one, or one is before the other. -/
theorem before_total {a b : EntryKey} (differ : a ≠ b) (h : ¬a.before b = true) : b.before a = true := by
  obtain ⟨la, ha⟩ := a
  obtain ⟨lb, hb⟩ := b
  rw [before_iff] at *
  simp only [not_or, not_and, Nat.not_lt] at h ⊢
  by_cases lanes : la = lb
  · subst lanes
    have : ha ≠ hb := fun e => differ (by rw [e])
    have := h.2 rfl
    exact .inr ⟨rfl, by omega⟩
  · have : la.number ≠ lb.number := fun e => lanes (by cases la <;> cases lb <;> simp_all [Lane.number])
    exact .inl (by omega)

theorem insertEntry_mem (x e : Entry) (es : List Entry) : e ∈ insertEntry x es ↔ e = x ∨ e ∈ es := by
  induction es with
  | nil => simp [insertEntry]
  | cons y es ih =>
    unfold insertEntry
    split
    · simp
    · rw [List.mem_cons, ih, List.mem_cons]
      exact or_left_comm

theorem insertEntry_length (x : Entry) (es : List Entry) : (insertEntry x es).length = es.length + 1 := by
  induction es with
  | nil => rfl
  | cons y es ih =>
    unfold insertEntry
    split
    · rfl
    · simp [ih]

theorem insertEntry_pairwise {x : Entry} {es : List Entry} {R : Entry → Entry → Prop} (h : es.Pairwise R)
    (before : ∀ e ∈ es, x.key.before e.key = true → R x e) (after : ∀ e ∈ es, ¬x.key.before e.key = true → R e x)
    (rest : ∀ e d, x.key.before e.key = true → R e d → d ∈ es → R x d) : (insertEntry x es).Pairwise R := by
  induction es with
  | nil => exact List.pairwise_singleton _ _
  | cons y es ih =>
    obtain ⟨first, later⟩ := List.pairwise_cons.mp h
    unfold insertEntry
    split
    · rename_i ahead
      refine List.pairwise_cons.mpr ⟨fun e he => ?_, h⟩
      obtain rfl | he := List.mem_cons.mp he
      · exact before _ List.mem_cons_self ahead
      · exact rest y e ahead (first e he) (List.mem_cons_of_mem _ he)
    · rename_i behind
      refine List.pairwise_cons.mpr ⟨fun e he => ?_, ih later (fun e he => before e (List.mem_cons_of_mem _ he))
        (fun e he => after e (List.mem_cons_of_mem _ he)) fun e d a b hd => rest e d a b (List.mem_cons_of_mem _ hd)⟩
      obtain rfl | he := (insertEntry_mem x e es).mp he
      · exact after y List.mem_cons_self behind
      · exact first e he

/-! ## Writes that keep the structure -/

section

variable {loss : Nat} {t : DeviceTable} {bind : Lane → Option PendingBinding} (h : TableKeeps loss t bind)
include h

theorem TableKeeps.key_unique {a b : Entry} (ha : a ∈ t.entries) (hb : b ∈ t.entries) (same : a.key = b.key) : a = b := by
  have distinct : t.entries.Pairwise fun a b => a.key ≠ b.key :=
    h.ordered.imp fun {a b} r (e : a.key = b.key) => before_irrefl b.key (e ▸ r)
  refine Classical.byContradiction fun differ => ?_
  exact related_of_pairwise (R := fun a b : Entry => a.key ≠ b.key) (fun apart => apart.symm) distinct ha hb differ same

theorem TableKeeps.identity_unique {a b : Entry} (ha : a ∈ t.entries) (hb : b ∈ t.entries) (lane : a.key.lane = b.key.lane)
    (same : a.identity = b.identity) : a = b := by
  refine Classical.byContradiction fun differ => ?_
  exact related_of_pairwise (R := fun a b : Entry => a.key.lane = b.key.lane → a.identity ≠ b.identity)
    (fun apart lane => (apart lane.symm).symm) h.identities ha hb differ lane same

theorem TableKeeps.find_mem {k : EntryKey} {e : Entry} (mem : e ∈ t.entries) (key : e.key = k) : t.find k = some e := by
  cases found : t.find k with
  | none => exact absurd (List.find?_eq_none.mp found e mem) (by simp [key])
  | some d =>
    have hd := List.mem_of_find?_eq_some found
    have same : d.key = k := by simpa using List.find?_some found
    rw [h.key_unique hd mem (same.trans key.symm)]

/-- A binding that ends reserves nothing. -/
theorem TableKeeps.fewer {bind' : Lane → Option PendingBinding} (fewer : ∀ m, bind' m = bind m ∨ bind' m = none) :
    TableKeeps loss t bind' where
  entries := h.entries
  ordered := h.ordered
  identities := h.identities
  room := by
    refine Nat.le_trans (Nat.add_le_add_left ?_ _) h.room
    refine filter_length_le fun m _ hm => ?_
    obtain e | e := fewer m
    · rwa [← e]
    · simp [reservesBy, e] at hm
  awayOnce := h.awayOnce
  away := h.away
  reservations n b own := by
    obtain e | e := fewer n
    · exact h.reservations n b (e ▸ own)
    · simp [e] at own

/-- A write entry by entry that keeps keys, identities and which entries are AWAY. -/
theorem TableKeeps.rewrite {loss' : Nat} {f : Entry → Entry} (key : ∀ e, (f e).key = e.key)
    (identity : ∀ e, (f e).identity = e.identity) (state : ∀ e, (f e).state = .away ↔ e.state = .away)
    (inv : ∀ e ∈ t.entries, EntryInv loss' (f e)) : TableKeeps loss' { t with entries := t.entries.map f } bind where
  entries e he := by
    obtain ⟨d, hd, rfl⟩ := List.mem_map.mp he
    exact inv d hd
  ordered := List.pairwise_map.mpr (h.ordered.imp fun r => by simpa only [key] using r)
  identities := List.pairwise_map.mpr (h.identities.imp fun r => by simpa only [key, identity] using r)
  room := by simpa using h.room
  awayOnce := h.awayOnce
  away k := by
    rw [h.away k]
    constructor
    · rintro ⟨e, he, own, away⟩
      exact ⟨f e, List.mem_map_of_mem he, (key e).trans own, (state e).mpr away⟩
    · rintro ⟨_, hd, own, away⟩
      obtain ⟨e, he, rfl⟩ := List.mem_map.mp hd
      exact ⟨e, he, (key e).symm.trans own, (state e).mp away⟩
  reservations n b own new := by
    obtain ⟨one, most, apart⟩ := h.reservations n b own new
    refine ⟨one, most, fun d hd lane => ?_⟩
    obtain ⟨e, he, rfl⟩ := List.mem_map.mp hd
    rw [key, identity]
    exact apart e he (key e ▸ lane)

/-- R119, R120: the entries of a lane turn AWAY and join the away list. -/
theorem TableKeeps.turnAway (n : Lane) : TableKeeps loss (t.turnAway n) bind where
  entries e he := by
    rw [turnAway_entries] at he
    obtain ⟨d, hd, rfl⟩ := List.mem_map.mp he
    unfold Entry.leftBy
    split
    · exact { h.entries d hd with miss := Nat.zero_le _, nameless := fun _ => ⟨rfl, rfl⟩ }
    · exact h.entries d hd
  ordered := by
    rw [turnAway_entries]
    exact List.pairwise_map.mpr (h.ordered.imp fun r => by simpa using r)
  identities := by
    have identity (e : Entry) : (e.leftBy n).identity = e.identity := by unfold Entry.leftBy; split <;> rfl
    rw [turnAway_entries]
    exact List.pairwise_map.mpr (h.identities.imp fun r => by simpa [identity] using r)
  room := by simpa [turnAway_entries] using h.room
  awayOnce := by
    refine List.nodup_append.mpr ⟨h.awayOnce, ?_, fun k away _ left e => ?_⟩
    · refine List.Pairwise.map _ (fun a b (r : a.key ≠ b.key) => r) ((h.ordered.imp fun r e => ?_).sublist ?_)
      · exact before_irrefl _ (e ▸ r)
      · exact List.filter_sublist.trans List.filter_sublist
    · obtain ⟨e, he, rfl, gone⟩ := (h.away k).mp away
      obtain ⟨d, hd, same⟩ := List.mem_map.mp (e ▸ left)
      obtain ⟨hd, bound⟩ := List.mem_filter.mp hd
      obtain rfl := h.key_unique (mem_ofLane.mp hd).1 he same
      exact (bound_iff d).mp bound gone
  away k := by
    simp only [DeviceTable.turnAway, List.mem_append, h.away k, DeviceTable.leaving, List.mem_map, List.mem_filter,
      mem_ofLane]
    constructor
    · rintro (⟨e, he, own, away⟩ | ⟨e, ⟨⟨he, lane⟩, bound⟩, own⟩)
      · refine ⟨_, ⟨e, he, rfl⟩, ?_, ?_⟩
        · split <;> exact own
        · split
          · rfl
          · exact away
      · exact ⟨_, ⟨e, he, rfl⟩, by rw [if_pos ⟨lane, bound⟩]; exact own, by rw [if_pos ⟨lane, bound⟩]; rfl⟩
    · rintro ⟨_, ⟨e, he, rfl⟩, own, away⟩
      by_cases leaves : e.key.lane = n ∧ e.bound = true
      · rw [if_pos leaves] at own
        exact .inr ⟨e, ⟨⟨he, leaves.1⟩, leaves.2⟩, own⟩
      · rw [if_neg leaves] at own away
        exact .inl ⟨e, he, own, away⟩
  reservations m b own new := by
    obtain ⟨one, most, apart⟩ := h.reservations m b own new
    refine ⟨one, most, fun d hd lane => ?_⟩
    rw [turnAway_entries] at hd
    obtain ⟨e, he, rfl⟩ := List.mem_map.mp hd
    have identity : (e.leftBy n).identity = e.identity := by unfold Entry.leftBy; split <;> rfl
    rw [leftBy_key, identity]
    exact apart e he (by simpa using lane)

/-- R124: entries that leave the table leave the away list. -/
theorem TableKeeps.remove (gone : List EntryKey) : TableKeeps loss (t.remove gone) bind where
  entries e he := h.entries e (List.mem_filter.mp he).1
  ordered := h.ordered.sublist List.filter_sublist
  identities := h.identities.sublist List.filter_sublist
  room := Nat.le_trans (Nat.add_le_add_right (List.length_filter_le _ _) _) h.room
  awayOnce := h.awayOnce.sublist List.filter_sublist
  away k := by
    simp only [DeviceTable.remove, List.mem_filter, h.away k]
    constructor
    · rintro ⟨⟨e, he, own, away⟩, stays⟩
      exact ⟨e, ⟨he, own ▸ stays⟩, own, away⟩
    · rintro ⟨e, ⟨he, stays⟩, own, away⟩
      exact ⟨⟨e, he, own, away⟩, own ▸ stays⟩
  reservations n b own new := by
    obtain ⟨one, most, apart⟩ := h.reservations n b own new
    exact ⟨one, most, fun e he => apart e (List.mem_filter.mp he).1⟩

/-- R98, R120: an entry that is found again is PRESENT and leaves the away list. -/
theorem TableKeeps.refind (k : EntryKey) {f : Entry → Entry} (key : ∀ e, (f e).key = e.key)
    (identity : ∀ e, (f e).identity = e.identity) (state : ∀ e, (f e).state = .present)
    (inv : ∀ e ∈ t.entries, EntryInv loss (f e)) : TableKeeps loss (t.refind k f) bind := by
  have key' (e : Entry) : (if e.key = k then f e else e).key = e.key := by
    split
    · exact key e
    · rfl
  have identity' (e : Entry) : (if e.key = k then f e else e).identity = e.identity := by
    split
    · exact identity e
    · rfl
  constructor
  case entries =>
    intro e he
    obtain ⟨d, hd, rfl⟩ := List.mem_map.mp he
    split
    · exact inv d hd
    · exact h.entries d hd
  case ordered => exact List.pairwise_map.mpr (h.ordered.imp fun r => by simpa only [key'] using r)
  case identities => exact List.pairwise_map.mpr (h.identities.imp fun r => by simpa only [key', identity'] using r)
  case room => simpa [DeviceTable.refind, DeviceTable.write] using h.room
  case awayOnce => exact h.awayOnce.sublist List.filter_sublist
  case away =>
    intro j
    simp only [DeviceTable.refind, DeviceTable.write, List.mem_filter, h.away j, List.mem_map]
    constructor
    · rintro ⟨⟨e, he, rfl, away⟩, other⟩
      have other : ¬e.key = k := by simpa using other
      exact ⟨e, ⟨e, he, if_neg other⟩, rfl, away⟩
    · rintro ⟨_, ⟨e, he, rfl⟩, own, away⟩
      by_cases same : e.key = k
      · rw [if_pos same, state] at away
        exact absurd away nofun
      · rw [if_neg same] at own away
        exact ⟨⟨e, he, own, away⟩, by simpa [← own] using same⟩
  case reservations =>
    intro n b own new
    obtain ⟨one, most, apart⟩ := h.reservations n b own new
    refine ⟨one, most, fun d hd lane => ?_⟩
    obtain ⟨e, he, rfl⟩ := List.mem_map.mp hd
    rw [key', identity']
    exact apart e he (key' e ▸ lane)

end

/-! ## Reservations (R97, R116, R121, R122) -/

/-- R122: the slots that the pending bindings of the other lanes reserve. -/
def reservedApart (n : Lane) (bind : Lane → Option PendingBinding) : Nat :=
  (Lane.all.filter fun m => m != n && reservesBy (bind m)).length

theorem reservedElsewhere_eq (s : State) (n : Lane) : s.reservedElsewhere n = reservedApart n s.bindings := by
  simp only [State.reservedElsewhere, reserves_eq]
  rfl

theorem reservedBy_eq (n : Lane) (bind : Lane → Option PendingBinding) :
    reservedBy bind = reservedApart n bind + if reservesBy (bind n) then 1 else 0 := by
  have distinct : Lane.all.Nodup := by decide
  have mem : n ∈ Lane.all := by cases n <;> decide
  have others : (Lane.all.erase n).filter (fun m => reservesBy (bind m)) =
      Lane.all.filter fun m => m != n && reservesBy (bind m) := by
    rw [distinct.erase_eq_filter, List.filter_filter]
    simp only [Bool.and_comm]
  rw [reservedBy, ((List.perm_cons_erase mem).filter _).length_eq, List.filter_cons, others, reservedApart]
  split <;> rfl

theorem reservedApart_congr {n : Lane} {bind bind' : Lane → Option PendingBinding} (others : ∀ m, m ≠ n → bind' m = bind m) :
    reservedApart n bind' = reservedApart n bind := by
  refine congrArg List.length (List.filter_congr fun m _ => ?_)
  by_cases other : m = n
  · simp [other]
  · rw [others m other]

section

variable {loss : Nat} {t : DeviceTable} {bind bind' : Lane → Option PendingBinding} (h : TableKeeps loss t bind)
  {n : Lane} {b : PendingBinding} (others : ∀ m, m ≠ n → bind' m = bind m)
include h others

/-- R97: a lane's pending binding is made, for a NEW record with its handle, its identity and its slot free. -/
theorem TableKeeps.reserve (own : bind' n = some b) (free : b.kind = .new →
      1 ≤ b.handle ∧ b.handle ≤ Config.handleCount ∧
        (∀ e ∈ t.entries, e.key.lane = n → e.key.handle ≠ b.handle ∧ e.identity ≠ b.identity) ∧
        t.entries.length + reservedApart n bind + 1 ≤ Config.tableSlots) : TableKeeps loss t bind' where
  entries := h.entries
  ordered := h.ordered
  identities := h.identities
  room := by
    have room := h.room
    rw [reservedBy_eq n] at room ⊢
    rw [reservedApart_congr others, own]
    split
    · rename_i new
      obtain ⟨_, _, _, room⟩ := free (by simpa [reservesBy] using new)
      exact room
    · omega
  awayOnce := h.awayOnce
  away := h.away
  reservations m c hc new := by
    by_cases same : m = n
    · subst same
      obtain rfl : b = c := Option.some.inj (own.symm.trans hc)
      obtain ⟨one, most, apart, _⟩ := free new
      exact ⟨one, most, apart⟩
    · exact h.reservations m c (others m same ▸ hc) new

/-- R98, R118: the entry of a NEW record is written, which ends its lane's reservation. -/
theorem TableKeeps.insert {x : Entry} (pending : bind n = some b) (new : b.kind = .new) (ended : bind' n = none)
    (key : x.key = ⟨n, b.handle⟩) (identity : x.identity = b.identity) (state : x.state = .present) (inv : EntryInv loss x) :
    TableKeeps loss (t.insert x) bind' := by
  obtain ⟨one, most, apart⟩ := h.reservations n b pending new
  have keys : ∀ e ∈ t.entries, x.key ≠ e.key := by
    intro e he same
    have hk : e.key = ⟨n, b.handle⟩ := same.symm.trans key
    exact (apart e he (by rw [hk])).1 (by rw [hk])
  have identities : ∀ e ∈ t.entries, e.key.lane = x.key.lane → e.identity ≠ x.identity := by
    intro e he lane
    rw [identity]
    exact (apart e he (by rw [lane, key])).2
  constructor
  case entries =>
    intro e he
    obtain rfl | he := (insertEntry_mem x e _).mp he
    · exact inv
    · exact h.entries e he
  case ordered =>
    exact insertEntry_pairwise h.ordered (fun _ _ before => before) (fun e he after => before_total (keys e he) after)
      fun e d before later _ => before_trans before later
  case identities =>
    refine insertEntry_pairwise (R := fun a b => a.key.lane = b.key.lane → a.identity ≠ b.identity) h.identities ?_ ?_ ?_
    · exact fun e he _ lane same => identities e he lane.symm same.symm
    · exact fun e he _ lane => identities e he lane
    · exact fun e d _ _ hd lane same => identities d hd lane.symm same.symm
  case room =>
    have room := h.room
    have reserved : reservesBy (bind n) = true := by simp [reservesBy, pending, new]
    have none : reservesBy (bind' n) = false := by rw [ended]; rfl
    rw [reservedBy_eq n] at room ⊢
    rw [reservedApart_congr others, none, DeviceTable.insert, insertEntry_length]
    rw [reserved] at room
    simp only [if_pos, Bool.false_eq_true, if_false] at room ⊢
    omega
  case awayOnce => exact h.awayOnce
  case away =>
    intro k
    simp only [DeviceTable.insert, insertEntry_mem]
    rw [h.away k]
    constructor
    · rintro ⟨e, he, own⟩
      exact ⟨e, .inr he, own⟩
    · rintro ⟨e, rfl | he, own, away⟩
      · rw [state] at away
        exact absurd away nofun
      · exact ⟨e, he, own, away⟩
  case reservations =>
    intro m c hc newC
    have other : m ≠ n := by
      rintro rfl
      rw [ended] at hc
      exact absurd hc nofun
    obtain ⟨one, most, apart⟩ := h.reservations m c (others m other ▸ hc) newC
    refine ⟨one, most, fun e he lane => ?_⟩
    obtain rfl | he := (insertEntry_mem x e _).mp he
    · rw [key] at lane
      exact absurd lane.symm other
    · exact apart e he lane

end

end Sys2Proof.Machine
end

section
/-!
What a walk that runs does to the state (R91 to R110): the kinds of change that its operations are made of, and one lemma
for each operation. What the whole of a walk's result keeps is read off these.
-/

namespace Sys2Proof.Machine

/-! ## The kinds of change -/

/-- R97, R121: what a NEW binding's reservation asks of the table: its handle and its identity are no entry's of the
lane, and
an entry slot is free. -/
structure Reservable (s : State) (n : Lane) (b : PendingBinding) : Prop where
  handle : 1 ≤ b.handle ∧ b.handle ≤ Config.handleCount
  apart : ∀ e ∈ s.table.entries, e.key.lane = n → e.key.handle ≠ b.handle ∧ e.identity ≠ b.identity
  room : s.table.entries.length + s.reservedElsewhere n + 1 ≤ Config.tableSlots

/-- A write to an entry's flags other than JUNCTION. -/
def KeepsJunction (f : Entry → Entry) : Prop :=
  ∀ e, ∃ g : EntryFlags, f e = { e with flags := g } ∧ g.junction = e.flags.junction

/-- The ways in which the operations of a walk that runs change the state. A reservation is made on what the table's
invariant, where the walk's result found it, tells. -/
inductive WalkMoves (n : Lane) (s : State) : State → Prop where
  | refl : WalkMoves n s s
  | walk {t : State} (h : WalkMoves n s t) (f : WalkUnit → WalkUnit)
      (runs : ∀ w, w.phase ≠ .idle → (f w).phase ≠ .idle) (binding : ∀ w, (f w).binding = w.binding ∨ (f w).binding = none) :
      WalkMoves n s (t.modWalk n f)
  | place {t : State} (h : WalkMoves n s t) (r : LineRequest) : WalkMoves n s (placeRequest n .procedure r t)
  | roster {t : State} (h : WalkMoves n s t) (m : Lane) (a b c : Nat) : WalkMoves n s (raiseRoster m a b c t)
  | flag {t : State} (h : WalkMoves n s t) (k : EntryKey) (f : Entry → Entry) (keeps : KeepsJunction f) :
      WalkMoves n s (t.modTable fun d => d.write k f)
  | turnAway {t : State} (h : WalkMoves n s t) : WalkMoves n s (t.modTable fun d => d.turnAway n)
  | remove {t : State} (h : WalkMoves n s t) (gone : List EntryKey) : WalkMoves n s (t.modTable fun d => d.remove gone)
  | reserve {t : State} (h : WalkMoves n s t) (b : PendingBinding)
      (room : TableInv s → b.kind = .new → Reservable t n b) :
      WalkMoves n s (t.modWalk n fun w => { w with phase := .binding, binding := some b })
  | bound {t : State} (h : WalkMoves n s t) (b : PendingBinding) (own : (t.col n).walk.binding = some b) :
      WalkMoves n s ((t.modTable (writeEntry n b (t.col n).walk)).modWalk n fun w => w.bound b)

/-- What the operations of a walk leave of their lane: everything but the walk unit and the procedure's request. -/
structure WalkFrame (n : Lane) (s t : State) : Prop where
  col : ∃ w r, t.col n = { s.col n with walk := w, arbiter := { (s.col n).arbiter with procedure := r } } ∧
    ((s.col n).walk.phase ≠ .idle → w.phase ≠ .idle)
  converter : t.converter = s.converter
  owed : t.port.owed = s.port.owed

section

variable (w : WalkUnit) (b : PendingBinding) (l : JunctionList)

@[simp] theorem withList_phase : (w.withList l).phase = w.phase := by unfold WalkUnit.withList; split <;> rfl
@[simp] theorem withList_binding : (w.withList l).binding = w.binding := by unfold WalkUnit.withList; split <;> rfl
@[simp] theorem addJunction_phase : (w.addJunction b).phase = w.phase := by unfold WalkUnit.addJunction; split <;> simp
@[simp] theorem bound_phase : (w.bound b).phase = w.phase := by simp [WalkUnit.bound]
@[simp] theorem bound_binding : (w.bound b).binding = none := rfl
@[simp] theorem toLegB_phase : w.toLegB.phase = .junctions := by unfold WalkUnit.toLegB; split <;> rfl
@[simp] theorem toLegB_binding : w.toLegB.binding = w.binding := by unfold WalkUnit.toLegB; split <;> rfl

end

theorem WalkMoves.frame {n : Lane} {s t : State} (h : WalkMoves n s t) : WalkFrame n s t := by
  induction h with
  | refl => exact ⟨⟨_, _, rfl, id⟩, rfl, rfl⟩
  | walk _ f runs _ ih =>
    obtain ⟨⟨w, r, col, phase⟩, converter, owed⟩ := ih
    exact ⟨⟨f w, r, by simp [col], fun h => runs w (phase h)⟩, converter, owed⟩
  | place _ q ih =>
    obtain ⟨⟨w, r, col, phase⟩, converter, owed⟩ := ih
    exact ⟨⟨w, some q, by simp [placeRequest, col], phase⟩, converter, owed⟩
  | roster _ m a b c ih =>
    obtain ⟨⟨w, r, col, phase⟩, converter, owed⟩ := ih
    rw [raiseRoster_eq]
    exact ⟨⟨w, r, col, phase⟩, converter, owed⟩
  | flag _ _ _ _ ih => exact { ih with }
  | turnAway _ ih => exact { ih with }
  | remove _ _ ih => exact { ih with }
  | reserve _ b _ ih =>
    obtain ⟨⟨w, r, col, phase⟩, converter, owed⟩ := ih
    exact ⟨⟨{ w with phase := .binding, binding := some b }, r, by simp [col], fun _ => nofun⟩, converter, owed⟩
  | bound _ b _ ih =>
    obtain ⟨⟨w, r, col, phase⟩, converter, owed⟩ := ih
    exact ⟨⟨w.bound b, r, by simp [col], fun h => by simpa using phase h⟩, converter, owed⟩

/-! ## The table's invariant through a walk -/

theorem TableInv.same {s t : State} (h : TableInv s) (table : t.table = s.table)
    (loss : t.settings.lossCount = s.settings.lossCount)
    (bindings : ∀ m, t.bindings m = s.bindings m ∨ t.bindings m = none) : TableInv t := by
  rw [tableInv_iff] at *
  rw [table, loss]
  exact h.fewer bindings

theorem TableInv.table {s : State} {f : DeviceTable → DeviceTable}
    (keeps : TableKeeps s.settings.lossCount (f s.table) s.bindings) : TableInv (s.modTable f) :=
  (tableInv_iff _).mpr keeps

theorem TableInv.modCol {s : State} (h : TableInv s) (n : Lane) {f : Column → Column}
    (binding : (f (s.col n)).walk.binding = (s.col n).walk.binding ∨ (f (s.col n)).walk.binding = none) :
    TableInv (s.modCol n f) := by
  refine h.same rfl rfl fun m => ?_
  by_cases same : m = n
  · subst same
    simpa [State.bindings] using binding
  · exact .inl (congrArg (fun c : Column => c.walk.binding) (PerLane.get_set_ne _ _ same))

theorem TableInv.raiseRoster {s : State} (h : TableInv s) (m : Lane) (a b c : Nat) :
    TableInv (raiseRoster m a b c s) := by
  rw [raiseRoster_eq]
  exact h.same rfl rfl fun _ => .inl rfl

/-- A write to the flags of an entry that keeps JUNCTION keeps all that the invariant asks. -/
theorem TableInv.flag {s : State} (h : TableInv s) (k : EntryKey) {f : Entry → Entry} (keeps : KeepsJunction f) :
    TableInv (s.modTable fun d => d.write k f) := by
  have hs := (tableInv_iff _).mp h
  refine TableInv.table (hs.rewrite ?_ ?_ ?_ ?_)
  · intro e
    split
    · obtain ⟨g, eq, _⟩ := keeps e
      rw [eq]
    · rfl
  · intro e
    split
    · obtain ⟨g, eq, _⟩ := keeps e
      rw [eq]
    · rfl
  · intro e
    split
    · obtain ⟨g, eq, _⟩ := keeps e
      rw [eq]
    · rfl
  · intro e he
    split
    · obtain ⟨g, eq, junction⟩ := keeps e
      rw [eq]
      exact { hs.entries e he with junction := junction ▸ (hs.entries e he).junction }
    · exact hs.entries e he

theorem refound_keeps {loss : Nat} {e : Entry} (h : EntryInv loss e) (b : PendingBinding) (w : WalkUnit) :
    EntryInv loss (e.refound b w) where
  handle := h.handle
  junction := by simp [Entry.refound]
  miss := Nat.zero_le _
  errors := h.errors
  nameless := nofun

/-- R98, R118, R120: the entry of a BIND that ended DONE. -/
theorem TableInv.bound {s : State} (h : TableInv s) {n : Lane} {b : PendingBinding}
    (own : (s.col n).walk.binding = some b) :
    TableInv ((s.modTable (writeEntry n b (s.col n).walk)).modWalk n fun w => w.bound b) := by
  have hs := (tableInv_iff _).mp h
  let u := (s.modTable (writeEntry n b (s.col n).walk)).modWalk n fun w => w.bound b
  have hu : u = (s.modTable (writeEntry n b (s.col n).walk)).modWalk n fun w => w.bound b := rfl
  refine (tableInv_iff u).mpr ?_
  have others : ∀ m, m ≠ n → u.bindings m = s.bindings m := fun m other =>
    congrArg (fun c : Column => c.walk.binding) (PerLane.get_set_ne _ _ other)
  have ended : u.bindings n = none := by simp [hu, State.bindings]
  have written : u.table = writeEntry n b (s.col n).walk s.table := rfl
  cases kind : b.kind with
  | new =>
    have table : u.table = s.table.insert (newEntry n b (s.col n).walk) := by
      rw [written, writeEntry, kind]
    obtain ⟨one, most, _⟩ := hs.reservations n b own kind
    rw [table]
    refine hs.insert others own kind ended rfl rfl rfl
      { handle := ⟨one, most⟩, junction := by simp [newEntry], miss := Nat.zero_le _, errors := Nat.zero_le _, nameless := nofun }
  | refound =>
    have table : u.table = s.table.refind ⟨n, b.handle⟩ (Entry.refound b (s.col n).walk) := by
      rw [written, writeEntry, kind]
    rw [table]
    refine (hs.refind _ (f := Entry.refound b (s.col n).walk) (fun _ => rfl) (fun _ => rfl) (fun _ => rfl)
      fun e he => ?_).fewer fun m => ?_
    · exact refound_keeps (hs.entries e he) b _
    · by_cases same : m = n
      · exact .inr (same ▸ ended)
      · exact .inl (others m same)

theorem TableInv.reserve {s : State} (h : TableInv s) {n : Lane} {b : PendingBinding}
    (room : b.kind = .new → Reservable s n b) :
    TableInv (s.modWalk n fun w => { w with phase := .binding, binding := some b }) := by
  have hs := (tableInv_iff _).mp h
  rw [tableInv_iff]
  refine hs.reserve (n := n) (b := b) (fun m other => ?_) (by simp [State.bindings]) fun new => ?_
  · exact congrArg (fun c : Column => c.walk.binding) (PerLane.get_set_ne _ _ other)
  · obtain ⟨⟨one, most⟩, apart, room⟩ := room new
    exact ⟨one, most, apart, reservedElsewhere_eq s n ▸ room⟩

/-- A walk that runs keeps the table's structure. -/
theorem WalkMoves.tableInv {n : Lane} {s t : State} (h : WalkMoves n s t) (hs : TableInv s) : TableInv t := by
  induction h with
  | refl => exact hs
  | walk _ f _ binding ih => exact ih.modCol n (binding _)
  | place _ r ih => exact ih.modCol n (f := fun c => { c with arbiter := { c.arbiter with procedure := some r } }) (.inl rfl)
  | roster _ m a b c ih => exact ih.raiseRoster m a b c
  | flag _ k f keeps ih => exact ih.flag k keeps
  | turnAway _ ih => exact TableInv.table (((tableInv_iff _).mp ih).turnAway n)
  | remove _ gone ih => exact TableInv.table (((tableInv_iff _).mp ih).remove gone)
  | reserve _ b room ih => exact ih.reserve (room hs)
  | bound _ b own ih => exact ih.bound own

/-! ## Allocation (R97, R121 to R123) -/

theorem lowestFree_some {used : List Nat} {h : Nat} (free : lowestFree used = some h) :
    1 ≤ h ∧ h ≤ Config.handleCount ∧ h ∉ used := by
  have mem := List.mem_of_find?_eq_some free
  have unused := List.find?_some free
  simp only [List.mem_map, List.mem_range] at mem
  obtain ⟨i, less, rfl⟩ := mem
  exact ⟨by omega, by omega, by simpa using unused⟩

theorem evict_eq (k : EntryKey) (s : State) : evict k s = raiseRoster k.lane 0 1 0 (s.modTable fun d => d.remove [k]) := rfl

@[simp] theorem evict_entries (k : EntryKey) (s : State) :
    (evict k s).table.entries = s.table.entries.filter fun e => !([k].contains e.key) := by
  rw [evict_eq, raiseRoster_eq]
  rfl

@[simp] theorem evict_elsewhere (k : EntryKey) (s : State) (n : Lane) :
    (evict k s).reservedElsewhere n = s.reservedElsewhere n := by
  rw [evict_eq, raiseRoster_eq]
  rfl

theorem TableInv.evict {s : State} (h : TableInv s) (k : EntryKey) : TableInv (evict k s) := by
  rw [evict_eq]
  exact (TableInv.table (((tableInv_iff _).mp h).remove [k])).raiseRoster _ _ _ _

theorem evict_fewer {k : EntryKey} {s : State} (h : TableInv s) (away : k ∈ s.table.away) :
    (Machine.evict k s).table.entries.length < s.table.entries.length := by
  obtain ⟨e, he, key, _⟩ := (h.away k).mp away
  rw [evict_entries]
  exact List.length_filter_lt_length_iff_exists.mpr ⟨e, he, by simp [key]⟩

section

variable {n : Lane} {identity : Identity} {cls : Byte} {s u : State} {h : Nat}

/-- R97 step 2: the slot that an allocation gives is free of the handle and the identity. -/
theorem allocateSlot_reservable (inv : TableInv s) (handle : 1 ≤ h ∧ h ≤ Config.handleCount)
    (apart : ∀ e ∈ s.table.entries, e.key.lane = n → e.key.handle ≠ h ∧ e.identity ≠ identity) {g : Nat}
    (given : allocateSlot n h s = .given g u) : Reservable u n { identity, cls, handle := g, kind := .new } := by
  unfold allocateSlot at given
  split at given
  · cases given
    exact ⟨handle, apart, by omega⟩
  · split at given
    · rename_i k found
      cases given
      have room := inv.room
      rw [reserved_eq, reservedBy_eq n, ← reservedElsewhere_eq] at room
      have fewer := evict_fewer inv (List.mem_of_find?_eq_some found)
      refine ⟨handle, fun e he => apart e ?_, ?_⟩
      · rw [evict_entries] at he
        exact (List.mem_filter.mp he).1
      · rw [evict_elsewhere]
        omega
    · cases given

/-- R97, R121: what an allocation gives is free of the handle and the identity. -/
theorem allocate_reservable (inv : TableInv s)
    (fresh : ∀ e ∈ s.table.entries, e.key.lane = n → e.identity ≠ identity) {g : Nat} (given : allocate n s = .given g u) :
    Reservable u n { identity, cls, handle := g, kind := .new } := by
  unfold allocate at given
  split at given
  · rename_i h free
    obtain ⟨one, most, unused⟩ := lowestFree_some free
    refine allocateSlot_reservable inv ⟨one, most⟩ (fun e he lane => ⟨?_, fresh e he lane⟩) given
    rintro rfl
    exact unused (List.mem_map_of_mem (mem_ofLane.mpr ⟨he, lane⟩))
  · split at given
    · rename_i k found
      have away := List.mem_of_find?_eq_some found
      have lane : k.lane = n := by
        have := List.find?_some found
        simp only [Bool.and_eq_true, beq_iff_eq] at this
        exact this.1
      obtain ⟨e, he, key, _⟩ := (inv.away k).mp away
      refine allocateSlot_reservable (inv.evict k) (key ▸ (inv.entries e he).handle) (fun d hd own => ?_) given
      rw [evict_entries, List.mem_filter] at hd
      refine ⟨fun same => ?_, fresh d hd.1 own⟩
      have : d.key = k := by
        rw [← lane] at own
        exact (EntryKey.mk.injEq ..).mpr ⟨own, same⟩
      simp [this] at hd
    · cases given

end

/-! ## The operations of a walk -/

/-- What a walk's result makes of the state: the walk runs on, or has ended and the lane is in READY (R108). -/
def WalkTurn (n : Lane) (s t : State) : Prop := WalkMoves n s t ∨ ∃ u, WalkMoves n s u ∧ t = endWalk n u

section

variable {n : Lane} {s t : State} (h : WalkMoves n s t)
include h

theorem evict_walkMoves (k : EntryKey) : WalkMoves n s (evict k t) := by
  rw [evict_eq]
  exact (h.remove _).roster _ _ _ _

theorem allocateSlot_walkMoves (g : Nat) : WalkMoves n s (allocateSlot n g t).state := by
  unfold allocateSlot
  split
  · exact h
  · split
    · exact evict_walkMoves h _
    · exact h

theorem allocate_walkMoves : WalkMoves n s (allocate n t).state := by
  unfold allocate
  split
  · exact allocateSlot_walkMoves h _
  · split
    · exact allocateSlot_walkMoves (evict_walkMoves h _) _
    · exact h

theorem noteReason_walkMoves (x : WalkReason) : WalkMoves n s (noteReason n x t) :=
  h.walk _ (fun _ runs => runs) fun _ => .inl rfl

theorem flagDepthLimit_walkMoves (j : Nat) : WalkMoves n s (flagDepthLimit n t j) := by
  unfold flagDepthLimit
  refine noteReason_walkMoves (.flag h _ _ ?_) _
  exact fun _ => ⟨_, rfl, rfl⟩

theorem flagsDepthLimit_walkMoves (js : List Nat) : WalkMoves n s (js.foldl (flagDepthLimit n) t) := by
  induction js generalizing t with
  | nil => exact h
  | cons j js ih => exact ih (flagDepthLimit_walkMoves h j)

theorem flagLegFailed_walkMoves (j : Nat) : WalkMoves n s (flagLegFailed n j t) := by
  unfold flagLegFailed
  refine noteReason_walkMoves (.flag h _ _ ?_) _
  exact fun _ => ⟨_, rfl, rfl⟩

theorem finishNext_turns (done : Option (Nat × Nat)) : WalkTurn n s (finishNext n done t) := by
  unfold finishNext
  split
  · exact .inl (h.place _)
  · exact .inr ⟨t, h, rfl⟩

theorem enterFinishing_turns : WalkTurn n s (enterFinishing n t) := by
  unfold enterFinishing
  refine finishNext_turns (.walk h _ ?_ ?_) _
  · exact fun _ _ => nofun
  · exact fun _ => .inr rfl

theorem stopWalk_turns (x : WalkReason) : WalkTurn n s (stopWalk n x t) :=
  enterFinishing_turns (noteReason_walkMoves h x)

theorem finishingResult_turns (j : Nat) (p : TransactionReport) : WalkTurn n s (finishingResult n j p t) := by
  refine finishNext_turns ?_ _
  split
  · exact h
  · exact flagLegFailed_walkMoves h j

theorem placeRound_walkMoves : WalkMoves n s (placeRound n t) := by
  unfold placeRound
  refine .place (.walk h _ ?_ ?_) _
  · exact fun _ _ => nofun
  · exact fun _ => .inl rfl

theorem startRounds_walkMoves : WalkMoves n s (startRounds n t) :=
  placeRound_walkMoves (h.walk _ (fun _ runs => runs) fun _ => .inl rfl)

theorem openLegA_walkMoves (j : Nat) : WalkMoves n s (openLegA n j t) := by
  unfold openLegA
  refine .place (.walk h _ ?_ ?_) _
  · exact fun _ _ => nofun
  · exact fun _ => .inl rfl

theorem openLegB_walkMoves (j : Nat) : WalkMoves n s (openLegB n j t) :=
  (h.walk _ (fun w _ => by simp) fun w => by simp).place _

theorem closeLegs_walkMoves (j : Nat) : WalkMoves n s (closeLegs n j t) := by
  unfold closeLegs
  refine .place (.walk h _ ?_ ?_) _
  · exact fun _ _ => nofun
  · exact fun _ => .inl rfl

theorem segmentDone_turns : WalkTurn n s (segmentDone n t) := by
  unfold segmentDone
  split
  · exact enterFinishing_turns h
  · split
    · exact .inl (openLegB_walkMoves h _)
    · exact .inl (closeLegs_walkMoves h _)

theorem takeJunction_turns : WalkTurn n s (takeJunction n t) := by
  unfold takeJunction
  simp only
  split
  · exact segmentDone_turns h
  · split
    · exact .inl (openLegA_walkMoves (h.walk _ (fun w runs => by simpa using runs) fun w => by simp) _)
    · exact segmentDone_turns ((flagsDepthLimit_walkMoves h _).walk _ (fun w runs => by simpa using runs) fun w => by simp)

theorem passLeg_walkMoves (j : Nat) (leg : Leg) : WalkMoves n s (passLeg n j leg t) := by
  cases leg
  · exact openLegB_walkMoves (flagLegFailed_walkMoves h j) j
  · exact closeLegs_walkMoves (flagLegFailed_walkMoves h j) j

theorem popFrame_turns : WalkTurn n s (popFrame n t) :=
  takeJunction_turns (h.walk _ (fun _ runs => runs) fun _ => .inl rfl)

theorem junctionResult_turns (r : LineRequest) (p : TransactionReport) : WalkTurn n s (junctionResult n r p t) := by
  unfold junctionResult
  split
  · split
    · exact popFrame_turns h
    · exact stopWalk_turns (flagLegFailed_walkMoves h _) _
  · split
    · exact .inl (startRounds_walkMoves h)
    · exact .inl (passLeg_walkMoves h _ _)

theorem judgeFailedRound_turns : WalkTurn n s (judgeFailedRound n t) := by
  unfold judgeFailedRound
  split
  · exact takeJunction_turns (noteReason_walkMoves h _)
  · exact .inl (placeRound_walkMoves h)

theorem failedRound_turns : WalkTurn n s (failedRound n t) :=
  judgeFailedRound_turns (h.walk _ (fun _ runs => runs) fun _ => .inr rfl)

theorem placeBind_walkMoves (b : PendingBinding) (room : TableInv s → b.kind = .new → Reservable t n b) :
    WalkMoves n s (placeBind n b t) :=
  (h.reserve b room).place _

theorem bindNew_turns (identity : Identity) (cls : Byte)
    (fresh : ∀ e ∈ t.table.entries, e.key.lane = n → e.identity ≠ identity) : WalkTurn n s (bindNew n identity cls t) := by
  have moves := allocate_walkMoves h
  unfold bindNew
  split
  · rename_i g u given
    rw [given] at moves
    exact .inl (placeBind_walkMoves moves _ fun inv _ => allocate_reservable (h.tableInv inv) fresh given)
  · rename_i u exhausted
    rw [exhausted] at moves
    exact stopWalk_turns moves _
  · rename_i u full
    rw [full] at moves
    exact stopWalk_turns moves _

theorem winningRound_turns (record : List Byte) : WalkTurn n s (winningRound n record t) := by
  unfold winningRound
  simp only
  split
  · rename_i none
    refine bindNew_turns h _ _ fun e he lane => ?_
    simpa using List.find?_eq_none.mp none e (mem_ofLane.mpr ⟨he, lane⟩)
  · split
    · exact .inl (placeBind_walkMoves h _ fun _ => nofun)
    · exact failedRound_turns h
    · exact failedRound_turns h

theorem roundResult_turns (p : TransactionReport) : WalkTurn n s (roundResult n p t) := by
  unfold roundResult
  split
  · exact winningRound_turns h _
  · split
    · exact takeJunction_turns h
    · exact failedRound_turns h

theorem bindResult_walkMoves (b : PendingBinding) (own : (t.col n).walk.binding = some b) (p : TransactionReport) :
    WalkMoves n s (bindResult n b p t) := by
  unfold bindResult
  split
  · exact placeRound_walkMoves (h.bound b own)
  · exact h.place _

theorem bindingResult_turns (r : LineRequest) (p : TransactionReport) : WalkTurn n s (bindingResult n r p t) := by
  unfold bindingResult
  split
  · rename_i b _ own
    exact .inl (bindResult_walkMoves h b own p)
  · exact failedRound_turns h

theorem turnAway_walkMoves : WalkMoves n s (turnAway n t) := h.turnAway.roster _ _ _ _

theorem openingResult_turns (p : TransactionReport) : WalkTurn n s (openingResult n p t) := by
  have counted : WalkMoves n s (t.modWalk n fun w => { w with releases := w.releases + 1 }) :=
    h.walk _ (fun _ runs => runs) fun _ => .inl rfl
  unfold openingResult
  split
  · simp only
    split
    · exact .inl (counted.place _)
    · exact stopWalk_turns (turnAway_walkMoves counted) _
  · exact .inl (startRounds_walkMoves (turnAway_walkMoves h))

/-- A result handed to the walk unit: the walk runs on, or has ended. -/
theorem walkResult_turns (x : Transaction) (p : TransactionReport) : WalkTurn n s (walkResult n x p t) := by
  unfold walkResult
  split
  · exact .inl h
  · exact openingResult_turns h p
  · exact roundResult_turns h p
  · exact bindingResult_turns h _ p
  · exact junctionResult_turns h _ p
  · exact finishingResult_turns h _ p

end

end Sys2Proof.Machine
end

section
/-!
Every operation outside a walk keeps the device table's structure, and with the walk's own so does every command.
-/

namespace Sys2Proof.Machine

/-! ## What the writes to an entry keep of it -/

theorem lineError_keeps {loss threshold : Nat} {e : Entry} (he : EntryInv loss e) : EntryInv loss (e.lineError threshold) :=
  { he with errors := Nat.min_le_left _ _ }

theorem named_eq (tool : Nat) (slots : List Slot) (filled : List Filled) (e : Entry) :
    ∃ x r, e.named tool slots filled = { e with name := x, slotRef := r } := by
  unfold Entry.named
  split
  · split
    · exact ⟨_, _, rfl⟩
    · exact ⟨_, _, rfl⟩
  · exact ⟨_, _, rfl⟩

theorem named_keeps_key (tool : Nat) (slots : List Slot) (filled : List Filled) (e : Entry) :
    (e.named tool slots filled).key = e.key ∧ (e.named tool slots filled).identity = e.identity ∧
      (e.named tool slots filled).state = e.state := by
  obtain ⟨x, r, eq⟩ := named_eq tool slots filled e
  rw [eq]
  exact ⟨rfl, rfl, rfl⟩

theorem named_keeps {loss : Nat} {e : Entry} (he : EntryInv loss e) (bound : e.bound = true) (tool : Nat) (slots : List Slot)
    (filled : List Filled) : EntryInv loss (e.named tool slots filled) := by
  obtain ⟨x, r, eq⟩ := named_eq tool slots filled e
  rw [eq]
  exact { he with nameless := fun away => absurd away ((bound_iff e).mp bound) }

theorem answered_keeps {loss : Nat} {e : Entry} (he : EntryInv loss e) (status : Option Byte) :
    EntryInv loss (e.answered status) where
  handle := he.handle
  junction := he.junction
  miss := Nat.zero_le _
  errors := he.errors
  nameless away := he.nameless (by cases state : e.state <;> simp_all [Entry.answered])

theorem missed_keeps {loss : Nat} {e : Entry} (he : EntryInv loss e) : EntryInv loss (e.missed loss) where
  handle := he.handle
  junction := he.junction
  miss := Nat.min_le_left _ _
  errors := he.errors
  nameless away := he.nameless (by
    cases state : e.state
    · simp only [Entry.missed, state] at away
      split at away <;> cases away
    · simp [Entry.missed, state] at away
    · rfl)

theorem probed_away (loss : Nat) (p : TransactionReport) (e : Entry) :
    (probed loss p e).state = .away ↔ e.state = .away := by
  unfold probed
  split
  · cases state : e.state <;> simp [Entry.answered, state]
  · cases state : e.state
    · simp only [Entry.missed, state]
      split <;> simp
    · simp [Entry.missed, state]
    · simp [Entry.missed, state]

/-! ## Updates of other blocks -/

/-- What changes neither the table nor the settings nor a column keeps the table's structure. -/
theorem TableInv.aside {s t : State} (h : TableInv s) (table : t.table = s.table) (settings : t.settings = s.settings)
    (columns : t.columns = s.columns) : TableInv t :=
  h.same table (by rw [settings]) fun _ => .inl (by simp [State.bindings, State.col, columns])

section

variable {n : Lane} {s : State} (h : TableInv s)
include h

theorem TableInv.modCtl (f : LaneCtl → LaneCtl) : TableInv (s.modCtl n f) :=
  h.modCol n (f := fun c => { c with ctl := f c.ctl }) (.inl rfl)

theorem TableInv.modSupervisor (f : Supervisor → Supervisor) : TableInv (s.modSupervisor n f) :=
  h.modCol n (f := fun c => { c with supervisor := f c.supervisor }) (.inl rfl)

theorem TableInv.modEngine (f : Engine → Engine) : TableInv (s.modEngine n f) :=
  h.modCol n (f := fun c => { c with engine := f c.engine }) (.inl rfl)

theorem TableInv.modArbiter (f : LineArbiter → LineArbiter) : TableInv (s.modArbiter n f) :=
  h.modCol n (f := fun c => { c with arbiter := f c.arbiter }) (.inl rfl)

theorem TableInv.setSlot (x : TransferSlot) : TableInv (s.setSlot n x) :=
  h.modCol n (f := fun c => { c with slot := x }) (.inl rfl)

theorem TableInv.modRoll (f : RollCall → RollCall) : TableInv (s.modRoll n f) :=
  h.modCol n (f := fun c => { c with roll := f c.roll }) (.inl rfl)

/-- A walk unit that is set to one without a pending binding. -/
theorem TableInv.modWalk {f : WalkUnit → WalkUnit} (ended : ∀ w, (f w).binding = none) : TableInv (s.modWalk n f) :=
  h.modCol n (f := fun c => { c with walk := f c.walk }) (.inr (ended _))

theorem TableInv.modPort (f : Port → Port) : TableInv (s.modPort f) := h.aside rfl rfl rfl

theorem TableInv.modConverter (f : Converter → Converter) : TableInv (s.modConverter f) := h.aside rfl rfl rfl

theorem TableInv.modNaming (f : Naming → Naming) : TableInv (s.modNaming f) := h.aside rfl rfl rfl

theorem TableInv.raise (x : Notice) : TableInv (raise x s) := h.modPort _

theorem TableInv.answer (tag code : Byte) (st : Status) (payload : List Byte) : TableInv (answer tag code st payload s) :=
  h.modPort fun p => { p with replies := p.replies ++ [{ tag, code, status := st, payload }] }

/-! ## Writes to the table -/

/-- A write to the entry of a key that keeps its identity and whether it is AWAY. -/
theorem TableInv.write {k : EntryKey} {f : Entry → Entry} (key : ∀ e, (f e).key = e.key)
    (identity : ∀ e, (f e).identity = e.identity) (state : ∀ e, (f e).state = .away ↔ e.state = .away)
    (inv : ∀ e, EntryInv s.settings.lossCount e → EntryInv s.settings.lossCount (f e)) :
    TableInv (s.modTable fun d => d.write k f) := by
  have hs := (tableInv_iff _).mp h
  refine TableInv.table (hs.rewrite ?_ ?_ ?_ ?_)
  · intro e
    split
    · exact key e
    · rfl
  · intro e
    split
    · exact identity e
    · rfl
  · intro e
    split
    · exact state e
    · rfl
  · intro e he
    split
    · exact inv e (hs.entries e he)
    · exact hs.entries e he

theorem TableInv.removeCounted (m : Lane) (gone : List EntryKey) : TableInv (removeCounted m gone s) :=
  (TableInv.table (((tableInv_iff _).mp h).remove gone)).raiseRoster _ _ _ _

theorem TableInv.removeAway : TableInv (removeAway n s) := h.removeCounted _ _

theorem TableInv.turnAway : TableInv (turnAway n s) :=
  (TableInv.table (((tableInv_iff _).mp h).turnAway n)).raiseRoster _ _ _ _

theorem TableInv.countLineError (k : EntryKey) : TableInv (countLineError k s) := by
  unfold Machine.countLineError
  split
  · exact h
  · refine TableInv.raiseRoster (h.write ?_ ?_ ?_ ?_) _ _ _ _
    · exact fun _ => rfl
    · exact fun _ => rfl
    · exact fun _ => .rfl
    · exact fun _ he => lineError_keeps he

/-- A naming pass writes the names of PRESENT and LOST entries alone (R156, R162). -/
theorem TableInv.namingPass : TableInv (namingPass s) := by
  have hs := (tableInv_iff _).mp h
  refine (TableInv.modNaming (TableInv.table (hs.rewrite ?_ ?_ ?_ ?_)) _).raise _
  · intro e
    split
    · exact (named_keeps_key _ _ _ e).1
    · rfl
  · intro e
    split
    · exact (named_keeps_key _ _ _ e).2.1
    · rfl
  · intro e
    split
    · rw [(named_keeps_key _ _ _ e).2.2]
    · rfl
  · intro e he
    split
    · rename_i inView
      exact named_keeps (hs.entries e he) (Bool.and_eq_true_iff.mp inView).1 _ _ _
    · exact hs.entries e he

theorem TableInv.passDue : TableInv (passDue s) := by
  unfold Machine.passDue
  split
  · exact h.modNaming _
  · exact h.namingPass

/-! ## The line -/

theorem TableInv.placeRequest (q : Requester) (r : LineRequest) : TableInv (placeRequest n q r s) := h.modArbiter _

theorem TableInv.lineGrant : TableInv (lineGrant n s) := by
  unfold Machine.lineGrant
  split
  · split
    · exact h
    · exact ((h.modArbiter _).modEngine _).modEngine _
  · exact h

theorem TableInv.abortLine : TableInv (abortLine n s) := (h.modEngine _).modArbiter _

/-! ## The lane controller -/

theorem TableInv.transition (entered : LaneState) (why : Reason) (carried : Option (SupplyClass × Int)) :
    TableInv (transition n entered why carried s) := by
  unfold Machine.transition
  simp only
  split
  · exact ((h.modCtl _).raise _).passDue
  · exact (h.modCtl _).raise _

theorem TableInv.endRead (st : Status) (r : Read) : TableInv (endRead n st r s) := by
  have freed := (h.setSlot (n := n) .free).modPort fun p => { p with owed := p.owed.set n none }
  unfold Machine.endRead
  simp only
  split
  · exact freed
  · exact freed.modPort _

theorem TableInv.abortRead : TableInv (abortRead n s) := by
  unfold Machine.abortRead
  split
  · exact h
  · exact h.endRead _ _

theorem TableInv.startWalk : TableInv (startWalk n s) := (h.modWalk fun _ => rfl).placeRequest _ _

theorem TableInv.abortWalk : TableInv (abortWalk n s) := by
  unfold Machine.abortWalk
  split
  · exact h
  · exact (h.modWalk fun _ => rfl).raiseRoster _ _ _ _

theorem TableInv.openSwitch : TableInv (openSwitch n s) := (h.modSupervisor _).modConverter _

theorem TableInv.leavePowered : TableInv (leavePowered n s) :=
  ((((h.openSwitch.modCtl _).abortWalk).modRoll _).abortLine).abortRead

theorem TableInv.startHold : TableInv (startHold n s) := by
  unfold Machine.startHold
  split
  · exact h.removeAway
  · exact h.modCtl _

theorem TableInv.departPowered : TableInv (departPowered n s) := h.leavePowered.turnAway.startHold

theorem TableInv.enterSettling (why : Reason) : TableInv (enterSettling n why s) := ((h.modCtl _).modRoll _).transition _ _ _

theorem TableInv.placePoint : TableInv (placePoint n s) := h.modConverter _

theorem TableInv.enterSignature (why : Reason) : TableInv (enterSignature n why s) :=
  (h.modCtl _).placePoint.transition _ _ _

theorem TableInv.enterAwaitGrant (why : Reason) (carried : Option (SupplyClass × Int)) :
    TableInv (enterAwaitGrant n why carried s) := (h.modCtl _).transition _ _ _

theorem TableInv.enterPowering (why : Reason) (carried : Option (SupplyClass × Int)) :
    TableInv (enterPowering n why carried s) := (h.modSupervisor _).transition _ _ _

theorem TableInv.enterWalking (why : Reason) : TableInv (enterWalking n why s) := (h.modCtl _).startWalk.transition _ _ _

theorem TableInv.leaveReady : TableInv (leaveReady n s) := (((h.modCtl _).modRoll _).abortLine).abortRead

theorem TableInv.enterReady : TableInv (enterReady n s) := (h.modRoll _).transition _ _ _

theorem TableInv.enterParting : TableInv (enterParting n s) := (h.modCtl _).transition _ _ _

theorem TableInv.enterFault (code : FaultCode) (current voltage : Code) : TableInv (enterFault n code current voltage s) :=
  ((h.modCtl _).raise _).transition _ _ _

theorem TableInv.faultPowered (code : FaultCode) (current voltage : Code) :
    TableInv (faultPowered n code current voltage s) := by
  unfold Machine.faultPowered
  split
  · exact h.departPowered.enterFault _ _ _
  · exact h

theorem TableInv.openAction : TableInv (openAction n s) := by
  unfold Machine.openAction
  split
  · exact h
  · exact h
  · exact (h.modCtl _).transition _ _ _
  · exact ((h.modCtl _).modConverter _).enterParting
  · exact (h.modCtl _).enterParting
  · exact h.departPowered.enterParting
  · exact h.departPowered.enterParting
  · exact h.departPowered.enterParting
  · exact h.modCtl _
  · exact h.enterParting

theorem TableInv.mateAction : TableInv (mateAction n s) := by
  unfold Machine.mateAction
  split
  · exact h.enterSettling _
  · exact h.enterSettling _
  all_goals exact h

theorem TableInv.settleExpired : TableInv (settleExpired n s) := by
  unfold Machine.settleExpired
  split
  · exact h.enterSignature _
  · exact h.transition _ _ _
  all_goals exact h

/-! ## Series and samples -/

theorem TableInv.actOnValid : TableInv (actOnValid n s) := by
  unfold Machine.actOnValid
  simp only
  split
  · split
    · exact (h.modCtl _).enterPowering _ _
    · exact (h.modCtl _).enterAwaitGrant _ _
  · split
    · exact h.enterPowering _ _
    · exact h.enterAwaitGrant _ _

theorem TableInv.failSeries (final : FinalVerdict) (code : FaultCode) : TableInv (failSeries n final code s) :=
  ((h.modCtl _).modConverter _).enterFault _ _ _

theorem TableInv.continueSeries : TableInv (continueSeries n s) := by
  have retried : TableInv (if (s.col n).ctl.record.attempts < Config.seriesAttempts then
      Machine.placePoint n (s.modCtl n fun c => { c with record := c.record.beginAttempt })
    else Machine.failSeries n .signatureBad .signatureBad s) := by
    split
    · exact (h.modCtl _).placePoint
    · exact h.failSeries _ _
  unfold Machine.continueSeries
  simp only
  split
  · exact h.placePoint
  · exact (h.modCtl _).actOnValid
  · exact h.failSeries _ _
  · exact retried
  · exact retried

theorem TableInv.pointHandled (live : Bool) (code : Code) (contact : Contact) :
    TableInv (pointHandled n live code contact s) := by
  unfold Machine.pointHandled
  simp only
  split
  · exact (h.modCtl _).openAction
  · split
    · exact ((h.modCtl _).modCtl _).continueSeries
    · exact h.modCtl _

theorem TableInv.supplyFault (code : FaultCode) : TableInv (supplyFault n code s) := h.openSwitch.faultPowered _ _ _

theorem TableInv.tripCheck (milliamps : Nat) : TableInv (tripCheck n milliamps s) := by
  unfold Machine.tripCheck
  split
  · exact h.supplyFault _
  · exact h

theorem TableInv.decidePowerGood (voltage : Code) : TableInv (decidePowerGood n voltage s) := by
  unfold Machine.decidePowerGood
  split
  · exact ((h.modSupervisor _).modCtl _).raise _
  · exact h.faultPowered _ _ _

theorem TableInv.policeVoltage (voltage : Code) : TableInv (policeVoltage n voltage s) := by
  unfold Machine.policeVoltage
  simp only
  split
  · exact (h.modSupervisor _).supplyFault _
  · exact h.modSupervisor _

theorem TableInv.sampleResult (current voltage : Code) : TableInv (sampleResult n current voltage s) := by
  have stored := h.modSupervisor (n := n) fun v => v.store current voltage
  unfold Machine.sampleResult
  simp only
  split
  · exact stored.supplyFault _
  · split
    · exact stored.decidePowerGood _
    · exact stored.policeVoltage _
    · exact stored
    · exact stored

/-! ## Roll call and the transfer slot -/

theorem TableInv.placeProbe (j : Nat) : TableInv (placeProbe n j s) := (h.modRoll _).placeRequest _ _

theorem TableInv.startWork : TableInv (startWork n s) := by
  unfold Machine.startWork
  split
  · exact (h.modRoll _).placeRequest _ _
  · split
    · exact h.placeProbe _
    · exact h.modRoll _

theorem TableInv.probeNext : TableInv (probeNext n s) := by
  unfold Machine.probeNext
  split
  · exact h.placeProbe _
  · unfold endWork
    split
    · exact (h.modRoll _).startWork
    · exact h.modRoll _

theorem TableInv.periodExpiry : TableInv (periodExpiry n s) := by
  unfold Machine.periodExpiry
  simp only
  split
  · exact (h.modRoll _).startWork
  · exact (h.modRoll _).modRoll _
  · exact (h.modRoll _).modRoll _
  · exact h
  · exact h

theorem TableInv.sweepRewalk : TableInv (sweepRewalk n s) := h.leaveReady.enterWalking _

theorem TableInv.sweepResult (p : TransactionReport) : TableInv (sweepResult n p s) := by
  unfold Machine.sweepResult
  split
  · unfold takeSweepAnswer
    split
    · exact (h.modRoll _).sweepRewalk
    · exact (h.modRoll _).modCtl _
  · exact (h.modRoll _).probeNext

theorem TableInv.writeProbe (j : Nat) (p : TransactionReport) : TableInv (writeProbe n j p s) := by
  unfold Machine.writeProbe
  split
  · exact h
  · refine TableInv.raiseRoster (h.write ?_ ?_ ?_ ?_) _ _ _ _
    · intro e
      unfold probed
      split <;> rfl
    · intro e
      unfold probed
      split <;> rfl
    · exact probed_away _ p
    · intro e he
      unfold probed
      split
      · exact answered_keeps he _
      · exact missed_keeps he

theorem TableInv.rollResult (p : TransactionReport) : TableInv (rollResult n p s) := by
  unfold Machine.rollResult
  split
  · exact h.sweepResult p
  · unfold probeResult
    split
    · exact (h.writeProbe _ _).probeNext
    · exact h.probeNext
  all_goals exact h

theorem TableInv.finishRead (st : Status) (r : Read) : TableInv (finishRead n st r s) := by
  unfold Machine.finishRead
  simp only
  split
  · exact (h.endRead _ _).sweepRewalk
  · exact h.endRead _ _

theorem TableInv.transferResult (p : TransactionReport) : TableInv (transferResult n p s) := by
  unfold Machine.transferResult
  split
  · exact h
  · split
    · unfold chunkDone
      simp only
      split
      · exact (h.setSlot _).finishRead _ _
      · exact (h.setSlot _).placeRequest _ _
    · exact h.finishRead _ _
    · exact h.finishRead _ _

/-! ## Results of attempts -/

theorem TableInv.endWalk : TableInv (endWalk n s) := by
  have removed : TableInv (s.modTable fun t => t.remove (s.table.awayOf n)) :=
    TableInv.table (((tableInv_iff _).mp h).remove _)
  exact ((removed.modWalk fun _ => rfl).raiseRoster _ _ _ _).enterReady

theorem TableInv.walkResult (x : Transaction) (p : TransactionReport) : TableInv (walkResult n x p s) := by
  obtain moves | ⟨u, moves, eq⟩ := walkResult_turns (n := n) .refl x p
  · exact moves.tableInv h
  · rw [eq]
    exact (moves.tableInv h).endWalk

theorem TableInv.endTransaction (x : Transaction) (p : TransactionReport) : TableInv (endTransaction n x p s) := by
  refine TableInv.lineGrant ?_
  unfold handResult
  split
  · exact (h.modEngine _).transferResult p
  · split
    · exact (h.modEngine _).rollResult p
    · exact (h.modEngine _).walkResult x p

theorem TableInv.retryOrEnd (x : Transaction) (r : AttemptResult) : TableInv (retryOrEnd n x r s) := by
  unfold Machine.retryOrEnd
  split
  · exact (h.modEngine _).modEngine _
  · exact h.endTransaction _ _

theorem TableInv.failAttempt (x : Transaction) (r : AttemptResult) : TableInv (failAttempt n x r s) :=
  (h.modEngine _).countLineError _

theorem TableInv.stopAttempt (x : Transaction) (r : AttemptResult) : TableInv (stopAttempt n x r s) := by
  unfold Machine.stopAttempt
  split
  · exact h.endTransaction _ _
  · split
    · exact h.endTransaction _ _
    · exact (h.failAttempt _ _).retryOrEnd _ _

theorem TableInv.breakAttempt (x : Transaction) (r : AttemptResult) (stages : List WireStage) :
    TableInv (breakAttempt n x r stages s) := ((h.modEngine _).failAttempt _ _).modEngine _

theorem TableInv.endClosing : TableInv (endClosing n s) := by
  unfold Machine.endClosing
  split
  · exact (h.modEngine _).lineGrant
  · exact h.retryOrEnd _ _

theorem TableInv.stuckLine : TableInv (stuckLine n s) := by
  unfold Machine.stuckLine
  simp only
  split
  · exact (h.modEngine _).faultPowered _ _ _
  · exact (h.modEngine _).faultPowered _ _ _
  all_goals exact (h.modEngine _).lineGrant

theorem TableInv.guarded {t : State} (ht : TableInv t) {p : Prop} [Decidable p] : TableInv (if p then t else s) := by
  split
  · exact ht
  · exact h

end

/-! ## Events -/

theorem tableInv_event {c : Instr} {n : Lane} {s t : State} (lane : eventLane s c = some n) (e : exec c s = .next t)
    (h : TableInv s) : TableInv t := by
  cases c
  case pointJobCompletion =>
    cases e
    split
    · exact (h.pointHandled _ _ _).modConverter _
    · exact h
    · exact h
  case sampleJobCompletion =>
    cases e
    split
    · refine TableInv.modConverter ?_ _
      split
      · exact h.sampleResult _ _
      · exact h
    · exact h
    · exact h
  case stall =>
    cases e
    split
    · split
      · exact h.breakAttempt _ _ _
      · exact h
    · exact h
  case collision =>
    cases e
    split
    · split
      · exact h.breakAttempt _ _ _
      · exact h
    · exact h
  case attemptEnd =>
    cases e
    split
    · exact (h.modEngine _).stopAttempt _ _
    · exact h
  case mateEvent => cases e; exact h.guarded (h.modCtl _).mateAction
  case openEvent => cases e; exact h.guarded (h.modCtl _).openAction
  case tripEvent => cases e; exact h.tripCheck _
  case settleTimerExpiry => cases e; exact h.guarded (h.modCtl _).settleExpired
  case grantWindowExpiry => cases e; exact h.guarded (h.modCtl _)
  case inrushWindowExpiry => cases e; exact h.guarded (((h.modSupervisor _).modConverter _).tripCheck _)
  case sampleDueInstant => cases e; exact h.guarded ((h.modSupervisor _).modConverter _)
  case bootWaitExpiry => cases e; exact h.guarded ((h.modCtl _).enterWalking _).lineGrant
  case remateHoldExpiry => cases e; exact h.guarded (h.modCtl _).removeAway
  case idleCheckPassed => cases e; exact h.guarded (h.modEngine _)
  case lineStuck => cases e; exact h.guarded h.stuckLine
  case closingStop => cases e; exact h.guarded (h.modEngine _).endClosing
  case closingGivenUp => cases e; exact h.guarded (h.modEngine _).endClosing
  case rollCallPeriodExpiry => cases e; exact h.guarded h.periodExpiry.lineGrant
  all_goals cases lane

/-! ## Requests -/

section

variable {s : State} (h : TableInv s)
include h

theorem TableInv.disableLane (n : Lane) : TableInv (disableLane n s) := by
  have left : TableInv (if (s.laneState n).powered then Machine.leavePowered n (withdrawJobs n (s.modCtl n fun c =>
      { c with
        settle := .stopped, grantWindow := .stopped, hold := .stopped, grantPending := none, rewalkWaiting := false }))
      else withdrawJobs n (s.modCtl n fun c =>
      { c with
        settle := .stopped, grantWindow := .stopped, hold := .stopped, grantPending := none, rewalkWaiting := false })) :=
    TableInv.guarded ((h.modCtl _).modConverter _) ((h.modCtl _).modConverter _).leavePowered
  exact ((left.removeCounted _ _).modCtl _).transition _ _ _

theorem TableInv.enableLane (n : Lane) : TableInv (enableLane n s) := by
  unfold Machine.enableLane
  simp only
  split
  · exact (h.transition _ _ _).enterSettling _
  · exact h.transition _ _ _

/-- R139: a loss count written below a miss count lowers it. -/
theorem TableInv.lossCount (v : Nat) : TableInv (applySetting .lossCount v s) := by
  have hs := (tableInv_iff _).mp h
  simp only [applySetting, settingEffect]
  split
  · refine (tableInv_iff _).mpr (hs.rewrite ?_ ?_ ?_ ?_)
    · intro e
      split <;> rfl
    · intro e
      split <;> rfl
    · intro e
      split <;> rfl
    · intro e he
      split
      · exact { hs.entries e he with miss := Nat.le_refl _ }
      · exact { hs.entries e he with miss := by simp only [Settings.put]; omega }
  · refine (tableInv_iff _).mpr { hs with entries := fun e he => { hs.entries e he with miss := ?_ } }
    have := (hs.entries e he).miss
    simp only [Settings.put]
    omega

theorem TableInv.applySetting (x : SettingId) (v : Nat) : TableInv (applySetting x v s) := by
  cases x
  case lossCount => exact h.lossCount v
  case enable n =>
    have effected : TableInv (settingEffect (.enable n) v s) := by
      simp only [settingEffect]
      split
      · split
        · exact h
        · exact h.disableLane n
      · split
        · exact h.enableLane n
        · exact h
    exact effected.same rfl rfl fun _ => .inl rfl
  all_goals exact h.same rfl rfl fun _ => .inl rfl

theorem TableInv.applyPairs (ps : List SettingPair) : TableInv (ps.foldl applyPair s) := by
  induction ps generalizing s with
  | nil => exact h
  | cons p ps ih =>
    refine ih ?_
    unfold applyPair
    split
    · exact h
    · exact h.applySetting _ _

theorem TableInv.grantLane (n : Lane) : TableInv (grantLane n s) := by
  unfold Machine.grantLane
  split
  · exact (h.modCtl _).enterPowering _ _
  · exact (h.modCtl _).enterSignature _

theorem TableInv.laneControl (tag lane : Byte) (taken : LaneState) {act : Lane → State → State}
    (ht : ∀ n, TableInv (act n s)) : TableInv (laneControl tag lane taken act s) := by
  unfold Machine.laneControl
  split
  · exact h.answer _ _ _ _
  · split
    · exact (ht _).answer _ _ _ _
    · exact h.answer _ _ _ _

theorem TableInv.applyCatalogue (tag code : Byte) (a : CatalogueAnswer) : TableInv (applyCatalogue tag code a s) := by
  unfold Machine.applyCatalogue
  split
  · exact h.answer _ _ _ _
  · rename_i c _
    have changed : TableInv { s with catalogue := c } := h.aside rfl rfl rfl
    exact changed.passDue.answer _ _ _ _

theorem TableInv.settleIfMated (n : Lane) : TableInv (settleIfMated s n) := by
  unfold Machine.settleIfMated
  exact h.guarded (h.enterSettling _)

theorem TableInv.comeUp (cause : ResetCause) : TableInv (comeUp cause s) := by
  unfold Machine.comeUp
  simp only [Lane.all, List.foldl_cons, List.foldl_nil]
  exact ((((h.raise _).settleIfMated _).settleIfMated _).settleIfMated _).settleIfMated _

end

/-- An empty table with no binding pending. -/
theorem tableInv_of_empty {s : State} (table : s.table = DeviceTable.reset) (bindings : ∀ n, s.bindings n = none) :
    TableInv s := by
  have free : reservedBy s.bindings = 0 := by
    simp [reservedBy, bindings, reservesBy]
  rw [tableInv_iff, table]
  constructor
  case entries => exact fun _ he => absurd he List.not_mem_nil
  case ordered => exact .nil
  case identities => exact .nil
  case room => rw [free]; decide
  case awayOnce => exact .nil
  case away => simp [DeviceTable.reset]
  case reservations => exact fun n b own => absurd ((bindings n).symm.trans own) nofun

theorem restarted_tableInv (s : State) : TableInv s.restarted :=
  tableInv_of_empty rfl fun n => by simp [State.bindings, State.col, State.restarted]; rfl

theorem cold_tableInv (s : State) (contacts : PerLane Contact) (p : Port) : TableInv (s.cold contacts p) :=
  tableInv_of_empty rfl fun n => by simp [State.bindings, State.col, State.cold]; rfl

theorem cleared_keeps {loss : Nat} {e : Entry} (he : EntryInv loss e) : EntryInv loss e.cleared :=
  { he with errors := Nat.zero_le _ }

theorem TableInv.deviceClear {s : State} (h : TableInv s) (tag lane handle : Byte) :
    TableInv (takeDeviceClear tag lane handle s) := by
  unfold takeDeviceClear
  split
  · split
    · exact h.answer _ _ _ _
    · refine TableInv.answer (TableInv.raiseRoster (h.write ?_ ?_ ?_ ?_) _ _ _ _) _ _ _ _
      · exact fun _ => rfl
      · exact fun _ => rfl
      · exact fun _ => .rfl
      · exact fun _ he => cleared_keeps he
  · exact h.answer _ _ _ _

theorem TableInv.deviceRead {s : State} (h : TableInv s) (tag lane handle offset count : Byte) :
    TableInv (takeDeviceRead tag lane handle offset count s) := by
  unfold takeDeviceRead
  split
  · split
    · exact h.answer _ _ _ _
    · exact (((h.setSlot _).modPort _).placeRequest _ _).lineGrant
  · exact h.answer _ _ _ _

theorem RequestHandler.tableInv {f : State → State} (handles : RequestHandler f) {s : State} (h : TableInv s) :
    TableInv (f s) := by
  cases handles
  case malformed => exact h.answer _ _ _ _
  case noAction => exact h.answer _ _ _ _
  case status => exact h.answer _ _ _ _
  case configure tag pairs =>
    unfold takeConfigure
    split
    · exact h.answer _ _ _ _
    · exact (h.applyPairs pairs).answer _ _ _ _
  case grant => exact h.laneControl _ _ _ h.grantLane
  case rewalk => exact h.laneControl _ _ _ fun _ => ((h.leaveReady.modRoll _).enterWalking _).lineGrant
  case clear => exact h.laneControl _ _ _ fun _ => (h.modCtl _).enterSettling _
  case laneRead =>
    unfold takeLaneRead
    split <;> exact h.answer _ _ _ _
  case roster =>
    unfold takeRoster
    split <;> exact h.answer _ _ _ _
  case deviceRead => exact h.deviceRead _ _ _ _ _
  case deviceClear => exact h.deviceClear _ _ _
  case catTool => exact h.applyCatalogue _ _ _
  case catSlot =>
    unfold takeCatSlot
    split
    · exact h.applyCatalogue _ _ _
    · exact h.answer _ _ _ _
  case catDrop => exact h.applyCatalogue _ _ _
  case catRead => exact h.answer _ _ _ _
  case nameNow => exact h.passDue.answer _ _ _ _
  case matchRead => exact h.answer _ _ _ _
  case restart => exact ((restarted_tableInv s).comeUp _).answer _ _ _ _

/-! ## Every command -/

theorem requestsKeep_table : RequestsKeep TableInv where
  full _ _ h := h.modPort _
  request _ handles _ _ h := handles.tableInv h

theorem commandsKeep_table : CommandsKeep TableInv where
  toRequestsKeep := requestsKeep_table
  event := tableInv_event
  fall _ h := h.modPort _
  rise := requestsKeep_table.rise (fun _ h => h.modPort _) (fun _ _ _ _ h => h.modPort _) fun _ h => h.modPort _
  powerOn contacts _ s _ := (cold_tableInv s contacts _).comeUp _
  hold s h := by
    unfold holdReset
    split
    · exact h
    · exact cold_tableInv s _ _
  release contacts s h := by
    unfold releaseReset
    split
    · exact (cold_tableInv s contacts _).comeUp _
    · exact h

/-- Settles O8. -/
theorem tableInvKept : Obligations.TableInvKept :=
  fun _ _ h e => commandsKeep_table.step (fun _ _ h => h.aside rfl rfl rfl) h e

end Sys2Proof.Machine
end

section
/-!
The supply rules (R35, R40, R41, R43, R44, R48, R49, R51) as an invariant of each lane's state, its supervisor and the
sample jobs that the converter holds for it, and that every command keeps them.
-/

namespace Sys2Proof.Machine

/-! ## The columns that operations leave -/

section

variable (n m : Lane) (s : State)

@[simp] theorem transition_converter (entered : LaneState) (why : Reason) (carried : Option (SupplyClass × Int)) :
    (transition n entered why carried s).converter = s.converter := by
  unfold transition
  simp only
  split
  · simp only [passDue_converter]
    rfl
  · rfl

@[simp] theorem transition_owed (entered : LaneState) (why : Reason) (carried : Option (SupplyClass × Int)) :
    (transition n entered why carried s).port.owed = s.port.owed := by
  unfold transition
  simp only
  split
  · simp only [passDue_owed]
    rfl
  · rfl

@[simp] theorem transition_col (entered : LaneState) (why : Reason) (carried : Option (SupplyClass × Int)) :
    (transition n entered why carried s).col n =
      { s.col n with ctl := { (s.col n).ctl with state := entered } } := by
  unfold transition
  simp only
  split <;> simp

@[simp] theorem transition_col_ne (other : m ≠ n) (entered : LaneState) (why : Reason)
    (carried : Option (SupplyClass × Int)) :
    (transition n entered why carried s).col m = s.col m := by
  unfold transition
  simp only
  split <;> simp [other]

@[simp] theorem raiseRoster_columns (a b c : Nat) : (raiseRoster n a b c s).columns = s.columns := by
  rw [raiseRoster_eq]
  rfl

@[simp] theorem raiseRoster_converter (a b c : Nat) : (raiseRoster n a b c s).converter = s.converter := by
  rw [raiseRoster_eq]
  rfl

@[simp] theorem raiseRoster_owed (a b c : Nat) : (raiseRoster n a b c s).port.owed = s.port.owed := by
  rw [raiseRoster_eq]
  rfl

@[simp] theorem turnAway_columns : (turnAway n s).columns = s.columns := raiseRoster_columns _ _ _ _ _

@[simp] theorem turnAway_converter : (turnAway n s).converter = s.converter := raiseRoster_converter _ _ _ _ _

@[simp] theorem removeCounted_columns (gone : List EntryKey) : (removeCounted n gone s).columns = s.columns :=
  raiseRoster_columns _ _ _ _ _

@[simp] theorem removeCounted_converter (gone : List EntryKey) : (removeCounted n gone s).converter = s.converter :=
  raiseRoster_converter _ _ _ _ _

@[simp] theorem removeCounted_owed (gone : List EntryKey) : (removeCounted n gone s).port.owed = s.port.owed :=
  raiseRoster_owed _ _ _ _ _

@[simp] theorem raiseRoster_col (a b c : Nat) : (raiseRoster n a b c s).col m = s.col m := by
  simp [State.col]

@[simp] theorem removeCounted_col (gone : List EntryKey) : (removeCounted n gone s).col m = s.col m := by
  simp [State.col]

theorem leavePowered_col : (leavePowered n s).col n = (s.col n).unpowered := by
  rw [leavePowered_eq]
  exact withColumn_col _ _ _

/-- R13, R14: the column of a lane that has left the powered states, its transition not yet made. -/
def Column.departed (c : Column) (g : Settings) : Column :=
  { c.unpowered with
    ctl := { c.unpowered.ctl with hold := if g.remateHold = 0 then c.ctl.hold else .running g.remateHold } }

theorem departPowered_col : (departPowered n s).col n = (s.col n).departed s.settings := by
  unfold Column.departed
  simp only [departPowered, startHold_eq, turnAway_eq, leavePowered_eq, withColumn_settings]
  split <;> simp [State.col, State.withColumn, Column.unpowered]

theorem departPowered_col_ne (other : m ≠ n) : (departPowered n s).col m = s.col m :=
  (departPowered_moves .refl).frame.others m other

@[simp] theorem departPowered_converter : (departPowered n s).converter = s.converter.withdraw n := by
  simp only [departPowered, startHold_eq, turnAway_eq, leavePowered_eq]
  split <;> rfl

/-- R89: the tag that a lane whose read has ended owes. -/
theorem departPowered_owed :
    (departPowered n s).port.owed = if (s.col n).slot = .free then s.port.owed else s.port.owed.set n none := by
  simp only [departPowered, startHold_eq, turnAway_eq, leavePowered_eq]
  split <;> rfl

theorem departPowered_opened : ((departPowered n s).col n).supervisor.switch = .opened := by
  rw [departPowered_col]
  rfl

end

/-! ## The sample jobs of a lane (R35 to R38) -/

/-- R35, R37: whether a sample job of a lane is placed, or in progress for the supply that asked for it. -/
def Converter.samples (c : Converter) (m : Lane) : Prop :=
  c.samplePending.get m = true ∨ c.job = some { lane := m, kind := .sample, live := true }

section

variable {c : Converter} {m n : Lane}

/-- R36: the arbiter takes a job from the placed ones. -/
theorem arbitrate_samples (h : c.arbitrate.samples m) : c.samples m := by
  unfold Converter.arbitrate at h
  split at h
  · rename_i j _ chosen
    obtain ⟨l, _, offer⟩ := List.exists_of_findSome?_eq_some chosen
    unfold Converter.offer at offer
    split at offer
    · rename_i placed
      cases offer
      simp only [Converter.samples, Converter.begin, Option.some.injEq, Job.mk.injEq, and_true] at h
      by_cases own : m = l
      · exact .inl (own ▸ placed)
      · obtain pending | job := h
        · exact .inl (by rwa [PerLane.get_set_ne _ _ own] at pending)
        · exact absurd job.symm own
    · obtain ⟨k, _, rfl⟩ := Option.map_eq_some_iff.mp offer
      obtain pending | job := h
      · exact .inl pending
      · cases job
  · exact h

theorem place_point_samples (p : Point) (h : (c.place (.point p) n).samples m) : c.samples m :=
  arbitrate_samples (c := { c with pointPending := c.pointPending.set n (some p) }) h

theorem place_sample_samples (h : (c.place .sample n).samples m) : m = n ∨ c.samples m := by
  by_cases own : m = n
  · exact .inl own
  · obtain pending | job := arbitrate_samples h
    · exact .inr (.inl (by rwa [PerLane.get_set_ne _ _ own] at pending))
    · exact .inr (.inr job)

theorem complete_samples (h : c.complete.samples m) : c.samples m := by
  obtain pending | job := arbitrate_samples h
  · exact .inl pending
  · cases job

/-- R35, R37: no job of the lane that withdraws remains for it; the other lanes' stay. -/
theorem withdraw_samples (h : (c.withdraw n).samples m) : m ≠ n ∧ c.samples m := by
  obtain pending | job := h
  · simp only [Converter.withdraw, PerLane.get_set] at pending
    split at pending
    · cases pending
    · rename_i other
      exact ⟨other, .inl pending⟩
  · obtain ⟨j, own, orphan⟩ := Option.map_eq_some_iff.mp job
    unfold Job.orphan at orphan
    split at orphan
    · exact absurd (congrArg Job.live orphan) nofun
    · rename_i other
      subst orphan
      exact ⟨other, .inr own⟩

theorem restart_samples (h : c.restart.samples m) : False := by
  obtain pending | job := h
  · simp [Converter.restart, Converter.reset] at pending
  · obtain ⟨j, _, discarded⟩ := Option.map_eq_some_iff.mp job
    exact absurd (congrArg Job.live discarded) nofun

theorem reset_samples (h : Converter.reset.samples m) : False := by
  obtain pending | job := h
  · simp [Converter.reset] at pending
  · cases job

end

/-! ## The invariant on what it speaks of -/

/-- The supply rules of a lane (`LaneSupplyInv`) on its state, its supervisor, and whether it has a sample job. -/
structure SupplyKeeps (x : LaneState) (v : Supervisor) (asked : Prop) : Prop where
  opened : v.switch = .opened → v = Supervisor.reset
  closed : v.switch = .closed → x.powered = true ∧ v.phase ≠ .idle
  inrush : v.inrush.isRunning = true ↔ v.phase = .inrush
  sampling : v.samplePeriod.isRunning = true ↔ v.phase = .check ∨ v.phase = .policing
  placed : asked → v.switch = .closed
  overload : v.overload < Config.overloadLimit
  low : v.lowCount < Config.lowSupplyLimit

theorem laneSupplyInv_iff {s : State} {n : Lane} :
    LaneSupplyInv s n ↔ SupplyKeeps (s.laneState n) (s.col n).supervisor (s.converter.samples n) :=
  ⟨fun h => ⟨h.opened, h.closed, h.inrush, h.sampling, fun asked => asked.elim h.placed h.sampled, h.overload, h.low⟩,
    fun h => ⟨h.opened, h.closed, h.inrush, h.sampling, fun p => h.placed (.inl p), fun j => h.placed (.inr j), h.overload,
      h.low⟩⟩

theorem SupplyKeeps.reset {x : LaneState} {asked : Prop} (free : ¬asked) : SupplyKeeps x Supervisor.reset asked where
  opened _ := rfl
  closed := nofun
  inrush := by decide
  sampling := by decide
  placed asks := absurd asks free
  overload := by decide
  low := by decide

section

variable {x : LaneState} {v : Supervisor} {asked : Prop} (h : SupplyKeeps x v asked)
include h

theorem SupplyKeeps.fewer {asked' : Prop} (fewer : asked' → asked) : SupplyKeeps x v asked' :=
  { h with placed := fun asks => h.placed (fewer asks) }

/-- A lane out of the powered states has its supervisor at rest. -/
theorem SupplyKeeps.rests (off : x.powered = false) : v = Supervisor.reset := by
  cases switch : v.switch with
  | opened => exact h.opened switch
  | closed => exact absurd (h.closed switch).1 (by simp [off])

/-- A lane may go from any state to a powered one, and to any with its switch open. -/
theorem SupplyKeeps.moved {y : LaneState} (fits : v.switch = .opened ∨ y.powered = true) : SupplyKeeps y v asked :=
  { h with closed := fun closed => ⟨fits.resolve_left (by simp [closed]), (h.closed closed).2⟩ }

theorem SupplyKeeps.closed_of_phase (phase : v.phase ≠ .idle) : v.switch = .closed := by
  cases switch : v.switch with
  | opened => exact absurd (congrArg Supervisor.phase (h.opened switch)) phase
  | closed => rfl

end

/-- A change of one lane and of the converter: the other lanes have no more sample jobs than they had. -/
theorem SupplyInv.update {s t : State} (h : SupplyInv s) (n : Lane) (others : ∀ m, m ≠ n → t.col m = s.col m)
    (fewer : ∀ m, m ≠ n → t.converter.samples m → s.converter.samples m)
    (own : SupplyKeeps (t.laneState n) (t.col n).supervisor (t.converter.samples n)) : SupplyInv t := by
  intro m
  by_cases same : m = n
  · exact laneSupplyInv_iff.mpr (same ▸ own)
  · have hm := (laneSupplyInv_iff.mp (h m)).fewer (fewer m same)
    rw [laneSupplyInv_iff, State.laneState, others m same]
    exact hm

/-! ## Updates -/

section

variable {n : Lane} {s : State} (h : SupplyInv s)
include h

theorem SupplyInv.at (m : Lane) : SupplyKeeps (s.laneState m) (s.col m).supervisor (s.converter.samples m) :=
  laneSupplyInv_iff.mp (h m)

/-- What changes neither a column nor the converter. -/
theorem SupplyInv.aside {t : State} (columns : t.columns = s.columns) (converter : t.converter = s.converter) :
    SupplyInv t := by
  intro m
  have hm := h.at m
  rw [laneSupplyInv_iff, State.laneState, State.col, columns, converter]
  exact hm

theorem SupplyInv.modCol {f : Column → Column} (state : (f (s.col n)).ctl.state = (s.col n).ctl.state)
    (supervisor : (f (s.col n)).supervisor = (s.col n).supervisor) : SupplyInv (s.modCol n f) := by
  refine h.update n (fun m other => PerLane.get_set_ne _ _ other) (fun _ _ asked => asked) ?_
  rw [State.laneState, State.modCol_col, state, supervisor]
  exact h.at n

theorem SupplyInv.modCtl {f : LaneCtl → LaneCtl} (state : (f (s.col n).ctl).state = (s.col n).ctl.state) :
    SupplyInv (s.modCtl n f) := h.modCol (f := fun c => { c with ctl := f c.ctl }) state rfl

theorem SupplyInv.modEngine (f : Engine → Engine) : SupplyInv (s.modEngine n f) :=
  h.modCol (f := fun c => { c with engine := f c.engine }) rfl rfl

theorem SupplyInv.modArbiter (f : LineArbiter → LineArbiter) : SupplyInv (s.modArbiter n f) :=
  h.modCol (f := fun c => { c with arbiter := f c.arbiter }) rfl rfl

theorem SupplyInv.setSlot (x : TransferSlot) : SupplyInv (s.setSlot n x) :=
  h.modCol (f := fun c => { c with slot := x }) rfl rfl

theorem SupplyInv.modRoll (f : RollCall → RollCall) : SupplyInv (s.modRoll n f) :=
  h.modCol (f := fun c => { c with roll := f c.roll }) rfl rfl

theorem SupplyInv.modWalk (f : WalkUnit → WalkUnit) : SupplyInv (s.modWalk n f) :=
  h.modCol (f := fun c => { c with walk := f c.walk }) rfl rfl

theorem SupplyInv.modSupervisor {f : Supervisor → Supervisor}
    (own : SupplyKeeps (s.laneState n) (f (s.col n).supervisor) (s.converter.samples n)) :
        SupplyInv (s.modSupervisor n f) := by
  refine h.update n (fun m other => PerLane.get_set_ne _ _ other) (fun _ _ asked => asked) ?_
  rw [State.laneState, State.modSupervisor_col]
  exact own

theorem SupplyInv.modPort (f : Port → Port) : SupplyInv (s.modPort f) := h.aside rfl rfl

theorem SupplyInv.modTable (f : DeviceTable → DeviceTable) : SupplyInv (s.modTable f) := h.aside rfl rfl

theorem SupplyInv.raise (x : Notice) : SupplyInv (raise x s) := h.aside rfl rfl

theorem SupplyInv.raiseRoster (m : Lane) (a b c : Nat) : SupplyInv (raiseRoster m a b c s) := h.aside (by simp) (by simp)

theorem SupplyInv.answer (tag code : Byte) (st : Status) (payload : List Byte) : SupplyInv (answer tag code st payload s) :=
  h.aside rfl rfl

theorem SupplyInv.passDue : SupplyInv (passDue s) := h.aside (by simp) (by simp)

theorem SupplyInv.modConverter {f : Converter → Converter}
    (fewer : ∀ m, (f s.converter).samples m → s.converter.samples m) : SupplyInv (s.modConverter f) :=
  fun m => laneSupplyInv_iff.mpr ((h.at m).fewer (fewer m))

theorem SupplyInv.placePoint : SupplyInv (placePoint n s) :=
  h.modConverter (f := fun c => c.place _ n) fun _ => place_point_samples _

theorem SupplyInv.withdrawJobs : SupplyInv (withdrawJobs n s) :=
  h.modConverter (f := fun c => c.withdraw n) fun _ asked => (withdraw_samples asked).2

theorem SupplyInv.complete : SupplyInv (s.modConverter Converter.complete) :=
  h.modConverter fun _ => complete_samples

theorem SupplyInv.opened (off : (s.laneState n).powered = false) : (s.col n).supervisor.switch = .opened :=
  congrArg Supervisor.switch ((h.at n).rests off)

theorem SupplyInv.transition {entered : LaneState} (why : Reason) (carried : Option (SupplyClass × Int))
    (fits : (s.col n).supervisor.switch = .opened ∨ entered.powered = true) :
    SupplyInv (transition n entered why carried s) := by
  refine h.update n (fun m other => transition_col_ne n m s other _ _ _) (fun m _ asked => by simpa using asked) ?_
  rw [State.laneState, transition_col, transition_converter]
  exact (h.at n).moved fits

/-! ## The line, the walk, roll call and the transfer slot -/

theorem SupplyInv.placeRequest (q : Requester) (r : LineRequest) : SupplyInv (placeRequest n q r s) := h.modArbiter _

theorem SupplyInv.lineGrant : SupplyInv (lineGrant n s) := by
  unfold Machine.lineGrant
  split
  · split
    · exact h
    · exact ((h.modArbiter _).modEngine _).modEngine _
  · exact h

theorem SupplyInv.abortLine : SupplyInv (abortLine n s) := (h.modEngine _).modArbiter _

theorem SupplyInv.endRead (st : Status) (r : Read) : SupplyInv (endRead n st r s) := by
  have freed := (h.setSlot (n := n) .free).modPort fun p => { p with owed := p.owed.set n none }
  unfold Machine.endRead
  simp only
  split
  · exact freed
  · exact freed.modPort _

theorem SupplyInv.abortRead : SupplyInv (abortRead n s) := by
  unfold Machine.abortRead
  split
  · exact h
  · exact h.endRead _ _

theorem SupplyInv.startWalk : SupplyInv (startWalk n s) := (h.modWalk _).placeRequest _ _

/-- R51: a lane whose switch opens has no sample job. -/
theorem SupplyInv.openSwitch : SupplyInv (openSwitch n s) := by
  refine h.update n (fun m other => PerLane.get_set_ne _ _ other) (fun m _ asked => (withdraw_samples asked).2) ?_
  have reset : ((Machine.openSwitch n s).col n).supervisor = Supervisor.reset := by
    simp [Machine.openSwitch, switchOff_eq]
  rw [reset]
  exact .reset fun asked => (withdraw_samples asked).1 rfl

theorem SupplyInv.leavePowered : SupplyInv (leavePowered n s) := by
  refine h.update n (fun m other => (leavePowered_moves .refl).frame.others m other) ?_ ?_
  · rw [leavePowered_eq]
    exact fun m _ asked => (withdraw_samples asked).2
  · rw [leavePowered_eq]
    have reset : ((s.withColumn n (s.col n).unpowered).col n).supervisor = Supervisor.reset := by simp [Column.unpowered]
    exact reset ▸ .reset fun asked => (withdraw_samples asked).1 rfl

theorem SupplyInv.departPowered : SupplyInv (departPowered n s) := by
  refine h.update n (fun m other => departPowered_col_ne n m s other) ?_ ?_
  · rw [departPowered_converter]
    exact fun m _ asked => (withdraw_samples asked).2
  · rw [departPowered_converter, departPowered_col]
    exact .reset fun asked => (withdraw_samples asked).1 rfl

/-! ## Entries into the states -/

theorem SupplyInv.enterSettling (why : Reason) (off : (s.laneState n).powered = false) :
    SupplyInv (enterSettling n why s) := by
  refine SupplyInv.transition (SupplyInv.modRoll (h.modCtl rfl) _) _ _ (.inl ?_)
  simpa using h.opened off

theorem SupplyInv.enterSignature (why : Reason) (off : (s.laneState n).powered = false) :
    SupplyInv (enterSignature n why s) := by
  refine (SupplyInv.placePoint (h.modCtl rfl)).transition _ _ (.inl ?_)
  simpa [Machine.placePoint] using h.opened off

theorem SupplyInv.enterAwaitGrant (why : Reason) (carried : Option (SupplyClass × Int))
    (off : (s.laneState n).powered = false) : SupplyInv (enterAwaitGrant n why carried s) := by
  refine SupplyInv.transition (h.modCtl rfl) _ _ (.inl ?_)
  simpa using h.opened off

/-- R41, R42, R44: a close command starts the inrush window. -/
theorem SupplyInv.enterPowering (why : Reason) (carried : Option (SupplyClass × Int))
    (off : (s.laneState n).powered = false) :
    SupplyInv (enterPowering n why carried s) := by
  have rests := (h.at n).rests off
  refine h.update n (fun m other => ?_) (fun m _ asked => ?_) ?_
  · simp [Machine.enterPowering, other]
  · simpa [Machine.enterPowering] using asked
  · have col : (Machine.enterPowering n why carried s).col n =
        { s.col n with
          ctl := { (s.col n).ctl with state := .powering }
          supervisor := Supervisor.reset.switchOn (s.col n).ctl.record.cls } := by
      simp [Machine.enterPowering, rests]
    rw [State.laneState, col]
    exact
      { opened := nofun, closed := fun _ => ⟨rfl, nofun⟩, inrush := ⟨fun _ => rfl, fun _ => rfl⟩
        sampling := ⟨nofun, nofun⟩, placed := fun _ => rfl, overload := (by decide : 0 < 60), low := (by decide : 0 < 3) }

theorem SupplyInv.enterWalking (why : Reason) : SupplyInv (enterWalking n why s) :=
  (SupplyInv.startWalk (h.modCtl rfl)).transition _ _ (.inr rfl)

theorem SupplyInv.leaveReady : SupplyInv (leaveReady n s) :=
  (SupplyInv.abortLine (SupplyInv.modRoll (h.modCtl rfl) _)).abortRead

theorem SupplyInv.enterReady : SupplyInv (enterReady n s) := (h.modRoll _).transition _ _ (.inr rfl)

theorem SupplyInv.enterParting (opened : (s.col n).supervisor.switch = .opened) : SupplyInv (enterParting n s) := by
  refine SupplyInv.transition (h.modCtl rfl) _ _ (.inl ?_)
  simpa using opened

theorem SupplyInv.enterFault (code : FaultCode) (current voltage : Code) (opened : (s.col n).supervisor.switch = .opened) :
    SupplyInv (enterFault n code current voltage s) := by
  refine SupplyInv.transition (SupplyInv.raise (h.modCtl rfl) _) _ _ (.inl ?_)
  simpa using opened

theorem SupplyInv.faultPowered (code : FaultCode) (current voltage : Code) :
    SupplyInv (faultPowered n code current voltage s) := by
  unfold Machine.faultPowered
  split
  · exact h.departPowered.enterFault _ _ _ (departPowered_opened n s)
  · exact h

end

/-! ## Open and mate events, series -/

theorem modCtl_off {n : Lane} {s : State} (off : (s.laneState n).powered = false) {f : LaneCtl → LaneCtl}
    (state : (f (s.col n).ctl).state = (s.col n).ctl.state) : ((s.modCtl n f).laneState n).powered = false := by
  rw [State.laneState, State.modCtl_col]
  rw [state]
  exact off

theorem openSwitch_modSupervisor (n : Lane) (s : State) (f : Supervisor → Supervisor) :
    openSwitch n (s.modSupervisor n f) = openSwitch n s := by
  simp [openSwitch, switchOff_eq, updates_eq]

section

variable {n : Lane} {s : State} (h : SupplyInv s)
include h

theorem SupplyInv.guarded {t : State} {p : Prop} [Decidable p] (ht : p → SupplyInv t) : SupplyInv (if p then t else s) := by
  split
  · exact ht ‹_›
  · exact h

theorem SupplyInv.openAction : SupplyInv (openAction n s) := by
  unfold Machine.openAction
  split
  · exact h
  · exact h
  · rename_i settling
    refine SupplyInv.transition (h.modCtl rfl) _ _ (.inl ?_)
    simpa using h.opened (by rw [settling]; rfl)
  · rename_i measuring
    refine (SupplyInv.withdrawJobs (h.modCtl rfl)).enterParting ?_
    simpa [Machine.withdrawJobs] using h.opened (by rw [measuring]; rfl)
  · rename_i awaiting
    refine (h.modCtl rfl).enterParting ?_
    simpa using h.opened (by rw [awaiting]; rfl)
  · exact h.departPowered.enterParting (departPowered_opened n s)
  · exact h.departPowered.enterParting (departPowered_opened n s)
  · exact h.departPowered.enterParting (departPowered_opened n s)
  · exact h.modCtl rfl
  · rename_i faulted
    exact h.enterParting (h.opened (by rw [faulted]; rfl))

theorem SupplyInv.mateAction : SupplyInv (mateAction n s) := by
  unfold Machine.mateAction
  split
  · exact h.enterSettling _ (by rw [‹s.laneState n = _›]; rfl)
  · exact h.enterSettling _ (by rw [‹s.laneState n = _›]; rfl)
  all_goals exact h

theorem SupplyInv.settleExpired : SupplyInv (settleExpired n s) := by
  unfold Machine.settleExpired
  split
  · exact h.enterSignature _ (by rw [‹s.laneState n = _›]; rfl)
  · exact h.transition _ _ (.inl (h.opened (by rw [‹s.laneState n = _›]; rfl)))
  all_goals exact h

section

variable (off : (s.laneState n).powered = false)
include off

theorem SupplyInv.actOnValid : SupplyInv (actOnValid n s) := by
  unfold Machine.actOnValid
  simp only
  split
  · split
    · exact (h.modCtl rfl).enterPowering _ _ (modCtl_off off rfl)
    · exact (h.modCtl rfl).enterAwaitGrant _ _ (modCtl_off off rfl)
  · split
    · exact h.enterPowering _ _ off
    · exact h.enterAwaitGrant _ _ off

theorem SupplyInv.failSeries (final : FinalVerdict) (code : FaultCode) : SupplyInv (failSeries n final code s) := by
  refine (SupplyInv.withdrawJobs (h.modCtl rfl)).enterFault _ _ _ ?_
  simpa [Machine.withdrawJobs] using h.opened off

theorem SupplyInv.continueSeries : SupplyInv (continueSeries n s) := by
  have retried : SupplyInv (if (s.col n).ctl.record.attempts < Config.seriesAttempts then
      Machine.placePoint n (s.modCtl n fun c => { c with record := c.record.beginAttempt })
    else Machine.failSeries n .signatureBad .signatureBad s) := by
    split
    · exact (h.modCtl rfl).placePoint
    · exact h.failSeries off _ _
  unfold Machine.continueSeries
  simp only
  split
  · exact h.placePoint
  · exact (h.modCtl rfl).actOnValid (modCtl_off off rfl)
  · exact h.failSeries off _ _
  · exact retried
  · exact retried

end

theorem SupplyInv.pointHandled (live : Bool) (code : Code) (contact : Contact) :
    SupplyInv (pointHandled n live code contact s) := by
  unfold Machine.pointHandled
  simp only
  split
  · exact (h.modCtl rfl).openAction
  · split
    · rename_i measuring
      have state : s.laneState n = .signature := by simpa using (Bool.and_eq_true_iff.mp measuring).2
      have off : ((setReading n contact.reads s).laneState n).powered = false := by rw [setReading_laneState, state]; rfl
      have sampled : SupplyInv (setReading n contact.reads s) := h.modCtl rfl
      exact (sampled.modCtl rfl).continueSeries (modCtl_off off rfl)
    · exact h.modCtl rfl

/-! ## The supervisor's events -/

/-- R50: a fault of the supply opens the switch, whatever the supervisor had come to. -/
theorem SupplyInv.supplyFault (code : FaultCode) (f : Supervisor → Supervisor) :
    SupplyInv (supplyFault n code (s.modSupervisor n f)) := by
  unfold Machine.supplyFault
  rw [openSwitch_modSupervisor]
  exact h.openSwitch.faultPowered _ _ _

theorem SupplyInv.tripCheck (milliamps : Nat) : SupplyInv (tripCheck n milliamps s) := by
  unfold Machine.tripCheck
  split
  · exact h.openSwitch.faultPowered _ _ _
  · exact h

/-- R46: a sample is stored, the accumulator below its limit. -/
theorem SupplyInv.stored {current voltage : Code} (closed : (s.col n).supervisor.switch = .closed)
    (below : (s.col n).supervisor.accumulate current < Config.overloadLimit) :
    SupplyInv (s.modSupervisor n fun v => v.store current voltage) := by
  have own := h.at n
  refine h.modSupervisor { own with opened := fun opened => ?_, overload := below }
  exact absurd (closed.symm.trans opened) nofun

theorem SupplyInv.decidePowerGood (voltage : Code) (check : (s.col n).supervisor.phase = .check) :
    SupplyInv (decidePowerGood n voltage s) := by
  have own := h.at n
  have closed := own.closed_of_phase (by rw [check]; exact nofun)
  unfold Machine.decidePowerGood
  split
  · have policing : SupplyInv (s.modSupervisor n fun v => { v with phase := .policing, lowCount := 0 }) := by
      refine h.modSupervisor ?_
      exact
        { own with
          opened := fun opened => absurd (closed.symm.trans opened) nofun
          closed := fun closed => ⟨(own.closed closed).1, nofun⟩
          inrush := iff_of_false (fun runs => by rw [own.inrush.mp runs] at check; cases check) nofun
          sampling := iff_of_true (own.sampling.mpr (.inl check)) (.inr rfl)
          low := (by decide : 0 < 3) }
    exact SupplyInv.raise (policing.modCtl rfl) _
  · exact h.faultPowered _ _ _

theorem SupplyInv.policeVoltage (voltage : Code) (closed : (s.col n).supervisor.switch = .closed) :
    SupplyInv (policeVoltage n voltage s) := by
  unfold Machine.policeVoltage
  simp only
  split
  · exact h.supplyFault _ _
  · rename_i below
    refine h.modSupervisor { h.at n with opened := fun opened => ?_, low := ?_ }
    · exact absurd (closed.symm.trans opened) nofun
    · simpa using below

theorem SupplyInv.sampleResult (current voltage : Code) (closed : (s.col n).supervisor.switch = .closed) :
    SupplyInv (sampleResult n current voltage s) := by
  have storedClosed : ((s.modSupervisor n fun v => v.store current voltage).col n).supervisor.switch = .closed := by
    simpa [Supervisor.store] using closed
  unfold Machine.sampleResult
  simp only
  split
  · exact h.supplyFault _ _
  · rename_i below
    have stored := h.stored (current := current) (voltage := voltage) closed (by simpa [Supervisor.store] using below)
    split
    · rename_i check
      exact stored.decidePowerGood _ check
    · exact stored.policeVoltage _ storedClosed
    · exact stored
    · exact stored

/-- R44: CHECK begins with the sample period started and a sample placed. -/
theorem SupplyInv.inrushExpired (runs : (s.col n).supervisor.inrush.isRunning = true) : SupplyInv (inrushExpired n s) := by
  have own := h.at n
  have closed := own.closed_of_phase (by rw [own.inrush.mp runs]; exact nofun)
  refine h.update n (fun m other => PerLane.get_set_ne _ _ other) (fun m other asked => ?_) ?_
  · exact (place_sample_samples asked).resolve_left other
  · have supervisor : ((Machine.inrushExpired n s).col n).supervisor = (s.col n).supervisor.endInrush := by
      simp [Machine.inrushExpired]
    have state : (Machine.inrushExpired n s).laneState n = s.laneState n := by simp [Machine.inrushExpired, State.laneState]
    rw [supervisor, state]
    exact
      { opened := fun opened => absurd (closed.symm.trans opened) nofun
        closed := fun closed => ⟨(own.closed closed).1, nofun⟩
        inrush := iff_of_false nofun nofun
        sampling := iff_of_true rfl (.inl rfl)
        placed := fun _ => closed
        overload := own.overload, low := own.low }

theorem SupplyInv.sampleDue (runs : (s.col n).supervisor.samplePeriod.isRunning = true) :
    SupplyInv ((s.modSupervisor n fun v => { v with samplePeriod := .running Config.samplePeriod }).modConverter fun c =>
      c.place .sample n) := by
  have own := h.at n
  have phase := own.sampling.mp runs
  have closed := own.closed_of_phase (by obtain e | e := phase <;> (rw [e]; exact nofun))
  refine h.update n (fun m other => PerLane.get_set_ne _ _ other) (fun m other asked => ?_) ?_
  · exact (place_sample_samples asked).resolve_left other
  · rw [State.laneState, State.modConverter_col, State.modSupervisor_col]
    exact
      { own with
        opened := fun opened => absurd (closed.symm.trans opened) nofun
        sampling := iff_of_true rfl phase
        placed := fun _ => closed }

/-! ## The ends of attempts -/

theorem SupplyInv.countLineError (k : EntryKey) : SupplyInv (countLineError k s) := by
  unfold Machine.countLineError
  split
  · exact h
  · exact SupplyInv.raiseRoster (h.modTable _) _ _ _ _

theorem SupplyInv.placeProbe (j : Nat) : SupplyInv (placeProbe n j s) := (h.modRoll _).placeRequest _ _

theorem SupplyInv.startWork : SupplyInv (startWork n s) := by
  unfold Machine.startWork
  split
  · exact (h.modRoll _).placeRequest _ _
  · split
    · exact h.placeProbe _
    · exact h.modRoll _

theorem SupplyInv.probeNext : SupplyInv (probeNext n s) := by
  unfold Machine.probeNext
  split
  · exact h.placeProbe _
  · unfold endWork
    split
    · exact (h.modRoll _).startWork
    · exact h.modRoll _

theorem SupplyInv.periodExpiry : SupplyInv (periodExpiry n s) := by
  unfold Machine.periodExpiry
  simp only
  split
  · exact (h.modRoll _).startWork
  · exact (h.modRoll _).modRoll _
  · exact (h.modRoll _).modRoll _
  · exact h
  · exact h

theorem SupplyInv.sweepRewalk : SupplyInv (sweepRewalk n s) := h.leaveReady.enterWalking _

theorem SupplyInv.sweepResult (p : TransactionReport) : SupplyInv (sweepResult n p s) := by
  unfold Machine.sweepResult
  split
  · unfold takeSweepAnswer
    split
    · exact (h.modRoll _).sweepRewalk
    · exact (h.modRoll _).modCtl rfl
  · exact (h.modRoll _).probeNext

theorem SupplyInv.writeProbe (j : Nat) (p : TransactionReport) : SupplyInv (writeProbe n j p s) := by
  unfold Machine.writeProbe
  split
  · exact h
  · exact SupplyInv.raiseRoster (h.modTable _) _ _ _ _

theorem SupplyInv.rollResult (p : TransactionReport) : SupplyInv (rollResult n p s) := by
  unfold Machine.rollResult
  split
  · exact h.sweepResult p
  · unfold probeResult
    split
    · exact (h.writeProbe _ _).probeNext
    · exact h.probeNext
  all_goals exact h

theorem SupplyInv.finishRead (st : Status) (r : Read) : SupplyInv (finishRead n st r s) := by
  unfold Machine.finishRead
  simp only
  split
  · exact (h.endRead _ _).sweepRewalk
  · exact h.endRead _ _

theorem SupplyInv.transferResult (p : TransactionReport) : SupplyInv (transferResult n p s) := by
  unfold Machine.transferResult
  split
  · exact h
  · split
    · unfold chunkDone
      simp only
      split
      · exact (h.setSlot _).finishRead _ _
      · exact (h.setSlot _).placeRequest _ _
    · exact h.finishRead _ _
    · exact h.finishRead _ _

theorem SupplyInv.walkMoves {t : State} (moves : WalkMoves n s t) : SupplyInv t := by
  induction moves with
  | refl => exact h
  | walk _ f _ _ ih => exact ih.modWalk f
  | place _ r ih => exact ih.placeRequest _ r
  | roster _ m a b c ih => exact ih.raiseRoster m a b c
  | flag _ _ _ _ ih => exact ih.modTable _
  | turnAway _ ih => exact ih.modTable _
  | remove _ _ ih => exact ih.modTable _
  | reserve _ b _ ih => exact ih.modWalk _
  | bound _ b _ ih => exact SupplyInv.modWalk (ih.modTable _) _

theorem SupplyInv.endWalk : SupplyInv (endWalk n s) :=
  (SupplyInv.raiseRoster (SupplyInv.modWalk (h.modTable _) _) _ _ _ _).enterReady

theorem SupplyInv.walkResult (x : Transaction) (p : TransactionReport) : SupplyInv (walkResult n x p s) := by
  obtain moves | ⟨u, moves, eq⟩ := walkResult_turns (n := n) .refl x p
  · exact h.walkMoves moves
  · rw [eq]
    exact (h.walkMoves moves).endWalk

theorem SupplyInv.endTransaction (x : Transaction) (p : TransactionReport) : SupplyInv (endTransaction n x p s) := by
  refine SupplyInv.lineGrant ?_
  unfold handResult
  split
  · exact (h.modEngine _).transferResult p
  · split
    · exact (h.modEngine _).rollResult p
    · exact (h.modEngine _).walkResult x p

theorem SupplyInv.retryOrEnd (x : Transaction) (r : AttemptResult) : SupplyInv (retryOrEnd n x r s) := by
  unfold Machine.retryOrEnd
  split
  · exact (h.modEngine _).modEngine _
  · exact h.endTransaction _ _

theorem SupplyInv.failAttempt (x : Transaction) (r : AttemptResult) : SupplyInv (failAttempt n x r s) :=
  (h.modEngine _).countLineError _

theorem SupplyInv.stopAttempt (x : Transaction) (r : AttemptResult) : SupplyInv (stopAttempt n x r s) := by
  unfold Machine.stopAttempt
  split
  · exact h.endTransaction _ _
  · split
    · exact h.endTransaction _ _
    · exact (h.failAttempt _ _).retryOrEnd _ _

theorem SupplyInv.breakAttempt (x : Transaction) (r : AttemptResult) (stages : List WireStage) :
    SupplyInv (breakAttempt n x r stages s) := (SupplyInv.failAttempt (h.modEngine _) _ _).modEngine _

theorem SupplyInv.endClosing : SupplyInv (endClosing n s) := by
  unfold Machine.endClosing
  split
  · exact (h.modEngine _).lineGrant
  · exact h.retryOrEnd _ _

theorem SupplyInv.stuckLine : SupplyInv (stuckLine n s) := by
  unfold Machine.stuckLine
  simp only
  split
  · exact (h.modEngine _).faultPowered _ _ _
  · exact (h.modEngine _).faultPowered _ _ _
  all_goals exact (h.modEngine _).lineGrant

end

/-! ## Events -/

theorem supplyInv_event {c : Instr} {n : Lane} {s t : State} (lane : eventLane s c = some n) (e : exec c s = .next t)
    (h : SupplyInv s) : SupplyInv t := by
  cases c
  case pointJobCompletion =>
    cases e
    split
    · exact (h.pointHandled _ _ _).complete
    · exact h
    · exact h
  case sampleJobCompletion =>
    cases e
    split
    · rename_i m live job
      refine SupplyInv.complete ?_
      split
      · rename_i asked
        exact h.sampleResult _ _ ((h m).sampled (by rw [job, asked]))
      · exact h
    · exact h
    · exact h
  case stall =>
    cases e
    split
    · split
      · exact h.breakAttempt _ _ _
      · exact h
    · exact h
  case collision =>
    cases e
    split
    · split
      · exact h.breakAttempt _ _ _
      · exact h
    · exact h
  case attemptEnd =>
    cases e
    split
    · exact SupplyInv.stopAttempt (h.modEngine _) _ _
    · exact h
  case mateEvent => cases e; exact h.guarded fun _ => (h.modCtl rfl).mateAction
  case openEvent => cases e; exact h.guarded fun _ => (h.modCtl rfl).openAction
  case tripEvent => cases e; exact h.tripCheck _
  case settleTimerExpiry => cases e; exact h.guarded fun _ => (h.modCtl rfl).settleExpired
  case grantWindowExpiry => cases e; exact h.guarded fun _ => h.modCtl rfl
  case inrushWindowExpiry => cases e; exact h.guarded fun runs => (h.inrushExpired runs).tripCheck _
  case sampleDueInstant => cases e; exact h.guarded h.sampleDue
  case bootWaitExpiry => cases e; exact h.guarded fun _ => (SupplyInv.enterWalking (h.modCtl rfl) _).lineGrant
  case remateHoldExpiry =>
    cases e
    exact h.guarded fun _ => SupplyInv.raiseRoster (SupplyInv.modTable (h.modCtl rfl) _) _ _ _ _
  case idleCheckPassed => cases e; exact h.guarded fun _ => h.modEngine _
  case lineStuck => cases e; exact h.guarded fun _ => h.stuckLine
  case closingStop => cases e; exact h.guarded fun _ => SupplyInv.endClosing (h.modEngine _)
  case closingGivenUp => cases e; exact h.guarded fun _ => SupplyInv.endClosing (h.modEngine _)
  case rollCallPeriodExpiry => cases e; exact h.guarded fun _ => h.periodExpiry.lineGrant
  all_goals cases lane

/-! ## Requests and resets -/

section

variable {s : State} (h : SupplyInv s)
include h

theorem SupplyInv.disableLane (n : Lane) : SupplyInv (disableLane n s) := by
  have stopped : SupplyInv (Machine.withdrawJobs n (s.modCtl n fun c =>
      { c with
        settle := .stopped, grantWindow := .stopped, hold := .stopped, grantPending := none, rewalkWaiting := false })) :=
    SupplyInv.withdrawJobs (h.modCtl rfl)
  unfold Machine.disableLane
  simp only
  split
  · refine SupplyInv.transition (SupplyInv.modCtl (SupplyInv.raiseRoster (stopped.leavePowered.modTable _) _ _ _ _) rfl) _ _
      (.inl ?_)
    simp [leavePowered_col, Column.unpowered, Supervisor.reset]
  · rename_i off
    refine SupplyInv.transition (SupplyInv.modCtl (SupplyInv.raiseRoster (stopped.modTable _) _ _ _ _) rfl) _ _ (.inl ?_)
    simpa [removeLane, Machine.withdrawJobs] using h.opened (n := n) (by simpa using off)

theorem SupplyInv.enableLane (n : Lane) (off : s.laneState n = .off) : SupplyInv (enableLane n s) := by
  have enabled : SupplyInv (Machine.transition n .empty .enabled none s) :=
    h.transition _ _ (.inl (h.opened (by rw [off]; rfl)))
  unfold Machine.enableLane
  simp only
  split
  · exact enabled.enterSettling _ (by simp [State.laneState, LaneState.powered])
  · exact enabled

theorem SupplyInv.applyPairs (ps : List SettingPair) : SupplyInv (ps.foldl applyPair s) := by
  induction ps generalizing s with
  | nil => exact h
  | cons p ps ih =>
    refine ih ?_
    unfold applyPair
    split
    · exact h
    · rename_i x _
      have effected : SupplyInv (settingEffect x (x.taken p.value.toNat) s) := by
        unfold settingEffect
        split
        · split
          · split
            · exact h
            · exact h.disableLane _
          · split
            · exact h.enableLane _ ‹_›
            · exact h
        · split
          · exact h.modTable _
          · exact h
        all_goals exact h
      exact effected.aside rfl rfl

theorem SupplyInv.grantLane (n : Lane) (awaiting : s.laneState n = .awaitGrant) : SupplyInv (grantLane n s) := by
  have off : (s.laneState n).powered = false := by rw [awaiting]; rfl
  unfold Machine.grantLane
  split
  · exact (h.modCtl rfl).enterPowering _ _ (modCtl_off off rfl)
  · exact (h.modCtl rfl).enterSignature _ (modCtl_off off rfl)

theorem SupplyInv.laneControl (tag lane : Byte) {taken : LaneState} {act : Lane → State → State}
    (ht : ∀ n, s.laneState n = taken → SupplyInv (act n s)) : SupplyInv (laneControl tag lane taken act s) := by
  unfold Machine.laneControl
  split
  · exact h.answer _ _ _ _
  · split
    · exact (ht _ ‹_›).answer _ _ _ _
    · exact h.answer _ _ _ _

theorem SupplyInv.applyCatalogue (tag code : Byte) (a : CatalogueAnswer) : SupplyInv (applyCatalogue tag code a s) := by
  unfold Machine.applyCatalogue
  split
  · exact h.answer _ _ _ _
  · rename_i c _
    have changed : SupplyInv { s with catalogue := c } := h.aside rfl rfl
    exact changed.passDue.answer _ _ _ _

theorem SupplyInv.settleIfMated (n : Lane) : SupplyInv (settleIfMated s n) := by
  unfold Machine.settleIfMated
  exact h.guarded fun ⟨empty, _⟩ => h.enterSettling _ (by rw [empty]; rfl)

theorem SupplyInv.comeUp (cause : ResetCause) : SupplyInv (comeUp cause s) := by
  unfold Machine.comeUp
  simp only [Lane.all, List.foldl_cons, List.foldl_nil]
  exact ((((h.raise _).settleIfMated _).settleIfMated _).settleIfMated _).settleIfMated _

theorem SupplyInv.deviceClear (tag lane handle : Byte) : SupplyInv (takeDeviceClear tag lane handle s) := by
  unfold takeDeviceClear
  split
  · split
    · exact h.answer _ _ _ _
    · exact (SupplyInv.raiseRoster (h.modTable _) _ _ _ _).answer _ _ _ _
  · exact h.answer _ _ _ _

theorem SupplyInv.deviceRead (tag lane handle offset count : Byte) :
    SupplyInv (takeDeviceRead tag lane handle offset count s) := by
  unfold takeDeviceRead
  split
  · split
    · exact h.answer _ _ _ _
    · exact (SupplyInv.placeRequest ((h.setSlot _).modPort _) _ _).lineGrant
  · exact h.answer _ _ _ _

end

/-- R53: every supervisor at rest and no live sample job. -/
theorem supplyInv_of_reset {s : State} (supervisor : ∀ n, (s.col n).supervisor = Supervisor.reset)
    (free : ∀ n, ¬s.converter.samples n) : SupplyInv s := by
  intro n
  rw [laneSupplyInv_iff, supervisor]
  exact .reset (free n)

theorem restarted_supplyInv (s : State) : SupplyInv s.restarted :=
  supplyInv_of_reset (fun n => by simp [State.col, State.restarted]; rfl) fun _ => restart_samples

theorem cold_supplyInv (s : State) (contacts : PerLane Contact) (p : Port) : SupplyInv (s.cold contacts p) :=
  supplyInv_of_reset (fun n => by simp [State.col, State.cold]; rfl) fun _ => reset_samples

theorem RequestHandler.supplyInv {f : State → State} (handles : RequestHandler f) {s : State} (h : SupplyInv s) :
    SupplyInv (f s) := by
  cases handles
  case malformed => exact h.answer _ _ _ _
  case noAction => exact h.answer _ _ _ _
  case status => exact h.answer _ _ _ _
  case configure tag pairs =>
    unfold takeConfigure
    split
    · exact h.answer _ _ _ _
    · exact (h.applyPairs pairs).answer _ _ _ _
  case grant => exact h.laneControl _ _ h.grantLane
  case rewalk => exact h.laneControl _ _ fun _ _ => (SupplyInv.enterWalking (h.leaveReady.modRoll _) _).lineGrant
  case clear =>
    refine h.laneControl _ _ fun n faulted => (h.modCtl rfl).enterSettling _ (modCtl_off ?_ rfl)
    rw [faulted]
    rfl
  case laneRead =>
    unfold takeLaneRead
    split <;> exact h.answer _ _ _ _
  case roster =>
    unfold takeRoster
    split <;> exact h.answer _ _ _ _
  case deviceRead => exact h.deviceRead _ _ _ _ _
  case deviceClear => exact h.deviceClear _ _ _
  case catTool => exact h.applyCatalogue _ _ _
  case catSlot =>
    unfold takeCatSlot
    split
    · exact h.applyCatalogue _ _ _
    · exact h.answer _ _ _ _
  case catDrop => exact h.applyCatalogue _ _ _
  case catRead => exact h.answer _ _ _ _
  case nameNow => exact h.passDue.answer _ _ _ _
  case matchRead => exact h.answer _ _ _ _
  case restart => exact ((restarted_supplyInv s).comeUp _).answer _ _ _ _

theorem requestsKeep_supply : RequestsKeep SupplyInv where
  full _ _ h := h.modPort _
  request _ handles _ _ h := handles.supplyInv h

theorem commandsKeep_supply : CommandsKeep SupplyInv where
  toRequestsKeep := requestsKeep_supply
  event := supplyInv_event
  fall _ h := h.modPort _
  rise := requestsKeep_supply.rise (fun _ h => h.modPort _) (fun _ _ _ _ h => h.modPort _) fun _ h => h.modPort _
  powerOn contacts _ s _ := (cold_supplyInv s contacts _).comeUp _
  hold s h := by
    unfold holdReset
    split
    · exact h
    · exact cold_supplyInv s _ _
  release contacts s h := by
    unfold releaseReset
    split
    · exact (cold_supplyInv s contacts _).comeUp _
    · exact h

end Sys2Proof.Machine
end

section
/-!
What each lane state allows to be under way (R1, R4, R10 to R12, R24, R40, R88, R91, R132) as an invariant of a
lane's column:
the controller with its supervisor, and the work of the lane's walk, roll call, read and line.
-/

namespace Sys2Proof.Machine

@[simp] theorem running_isRunning (k : Nat) : (Timer.running k).isRunning = true := rfl
@[simp] theorem stopped_isRunning : Timer.stopped.isRunning = false := rfl

/-! ## The controller and its supervisor -/

/-- What a lane controller and its supervisor hold in each state. -/
structure CtlInv (c : LaneCtl) (v : Supervisor) : Prop where
  settling : c.settle.isRunning = true ↔ c.state = .settling ∨ c.state = .parting
  granting : c.grantWindow.isRunning = true → c.state = .awaitGrant
  fresh : c.state = .awaitGrant → (c.grantWindow.isRunning = true ↔ c.mark = .fresh)
  pendingGrant : c.grantPending.isSome = true → c.state = .signature
  held : c.hold.isRunning = true → c.state ≠ .off ∧ c.state ≠ .walking ∧ c.state ≠ .ready
  powered : v.switch = .closed ↔ c.state.powered = true
  booting : c.bootWait.isRunning = true ↔ c.state = .powering ∧ v.phase = .policing
  measuring : c.state = .signature → Measuring c.record
  policing : c.state = .walking ∨ c.state = .ready → v.phase = .policing
  signed : c.state = .awaitGrant ∨ c.state.powered = true → c.record.final = .valid ∧ c.record.cls.isSome = true
  budget : c.state.powered = true → v.cls = c.record.cls
  faulted : c.state = .fault → c.fault ≠ .none

/-- A lane out of power with no grant window and no grant pending: what the entries into the unpowered states start from. -/
structure Quiet (c : LaneCtl) (v : Supervisor) : Prop where
  granting : c.grantWindow.isRunning = false
  pending : c.grantPending = none
  booting : c.bootWait.isRunning = false
  opened : v.switch = .opened

section

variable {c : LaneCtl} {v : Supervisor}

theorem CtlInv.unsettled (h : CtlInv c v) (settling : c.state ≠ .settling) (parting : c.state ≠ .parting) :
    c.settle.isRunning = false := by
  rw [Bool.eq_false_iff]
  exact fun runs => (h.settling.mp runs).elim settling parting

theorem CtlInv.windowless (h : CtlInv c v) (other : c.state ≠ .awaitGrant) : c.grantWindow.isRunning = false := by
  rw [Bool.eq_false_iff]
  exact fun runs => other (h.granting runs)

theorem CtlInv.unpending (h : CtlInv c v) (other : c.state ≠ .signature) : c.grantPending = none := by
  cases pending : c.grantPending with
  | none => rfl
  | some _ => exact absurd (h.pendingGrant (by rw [pending]; rfl)) other

theorem CtlInv.opened (h : CtlInv c v) (off : c.state.powered = false) : v.switch = .opened := by
  cases switch : v.switch with
  | opened => rfl
  | closed => exact absurd (h.powered.mp switch) (by simp [off])

theorem CtlInv.unbooting (h : CtlInv c v) (other : c.state ≠ .powering) : c.bootWait.isRunning = false := by
  rw [Bool.eq_false_iff]
  exact fun runs => other (h.booting.mp runs).1

theorem powering_powered {x : LaneState} (off : x.powered = false) : x ≠ .powering := by
  rintro rfl
  cases off

/-- A lane out of power, in none of the states of a series or a grant. -/
theorem CtlInv.quiet (h : CtlInv c v) (off : c.state.powered = false) (signature : c.state ≠ .signature)
    (awaitGrant : c.state ≠ .awaitGrant) : Quiet c v where
  granting := h.windowless awaitGrant
  pending := h.unpending signature
  booting := h.unbooting (powering_powered off)
  opened := h.opened off

/-- R3: SETTLING, the settle timer started. -/
theorem Quiet.settles (h : Quiet c v) (k : Nat) : CtlInv { c with state := .settling, settle := .running k } v := by
  constructor <;> simp [h.granting, h.pending, h.booting, h.opened, LaneState.powered]

/-- R15: PARTING, the settle timer started. -/
theorem Quiet.parts (h : Quiet c v) (k : Nat) : CtlInv { c with state := .parting, settle := .running k } v := by
  constructor <;> simp [h.granting, h.pending, h.booting, h.opened, LaneState.powered]

/-- R2, R15: EMPTY. -/
theorem Quiet.empties (h : Quiet c v) (stopped : c.settle.isRunning = false) : CtlInv { c with state := .empty } v := by
  constructor <;> simp [h.granting, h.pending, h.booting, h.opened, LaneState.powered, stopped]

/-- R18: OFF, every timer stopped. -/
theorem Quiet.offs (h : Quiet c v) (stopped : c.settle.isRunning = false) (free : c.hold.isRunning = false) :
    CtlInv { c with state := .off } v := by
  constructor <;> simp [h.granting, h.pending, h.booting, h.opened, LaneState.powered, stopped, free]

/-- R16: FAULT, with its code. -/
theorem Quiet.faults (h : Quiet c v) (stopped : c.settle.isRunning = false) (code : c.fault ≠ .none) :
    CtlInv { c with state := .fault } v := by
  constructor <;> simp [h.granting, h.pending, h.booting, h.opened, LaneState.powered, stopped, code]

/-- R4, R30: SIGNATURE, a series running. -/
theorem CtlInv.measures (granting : c.grantWindow.isRunning = false) (booting : c.bootWait.isRunning = false)
    (opened : v.switch = .opened) (stopped : c.settle.isRunning = false) (record : Measuring c.record) :
    CtlInv { c with state := .signature } v := by
  constructor <;> simp [granting, booting, opened, LaneState.powered, stopped, record]

/-- R4, R6: AWAIT_GRANT, the grant window started with a FRESH mark. -/
theorem Quiet.awaits (h : Quiet c v) (stopped : c.settle.isRunning = false) (valid : c.record.final = .valid)
    (cls : c.record.cls.isSome = true) (k : Nat) :
    CtlInv { c with state := .awaitGrant, grantWindow := .running k, mark := .fresh } v := by
  constructor <;> simp [h.pending, h.booting, h.opened, LaneState.powered, stopped, valid, cls]

/-- R8, R41, R44: POWERING, the switch closed for the record's class. -/
theorem Quiet.powers (h : Quiet c v) (stopped : c.settle.isRunning = false) (valid : c.record.final = .valid)
    (cls : c.record.cls.isSome = true) : CtlInv { c with state := .powering } (v.switchOn c.record.cls) := by
  have closed : v.switchOn c.record.cls =
      { v with switch := .closed, phase := .inrush, cls := c.record.cls, inrush := .running Config.inrushWindow } := by
    simp only [Supervisor.switchOn, h.opened]
  rw [closed]
  constructor <;> simp [h.granting, h.pending, h.booting, LaneState.powered, stopped, valid, cls]

/-- What every powered lane holds. -/
structure Powered (c : LaneCtl) (v : Supervisor) : Prop where
  settle : c.settle.isRunning = false
  granting : c.grantWindow.isRunning = false
  pending : c.grantPending = none
  closed : v.switch = .closed
  valid : c.record.final = .valid
  cls : c.record.cls.isSome = true
  budget : v.cls = c.record.cls

theorem CtlInv.on (h : CtlInv c v) (on : c.state.powered = true) : Powered c v := by
  have apart : ∀ x : LaneState, x.powered = false → c.state ≠ x := fun x off same => by simp [same, off] at on
  obtain ⟨valid, cls⟩ := h.signed (.inr on)
  exact
    { settle := h.unsettled (apart _ rfl) (apart _ rfl), granting := h.windowless (apart _ rfl)
      pending := h.unpending (apart _ rfl), closed := h.powered.mpr on, valid, cls, budget := h.budget on }

/-- R10: WALKING, the boot wait and the hold stopped. -/
theorem Powered.walks (h : Powered c v) (booting : c.bootWait.isRunning = false) (held : c.hold.isRunning = false)
    (policing : v.phase = .policing) : CtlInv { c with state := .walking } v := by
  constructor <;>
    simp [h.settle, h.granting, h.pending, h.closed, h.valid, h.cls, h.budget, booting, held, policing, LaneState.powered]

/-- R11: READY. -/
theorem Powered.readies (h : Powered c v) (booting : c.bootWait.isRunning = false) (held : c.hold.isRunning = false)
    (policing : v.phase = .policing) : CtlInv { c with state := .ready } v := by
  constructor <;>
    simp [h.settle, h.granting, h.pending, h.closed, h.valid, h.cls, h.budget, booting, held, policing, LaneState.powered]

theorem CtlInv.policed (h : CtlInv c v) (working : c.state = .walking ∨ c.state = .ready) :
    Powered c v ∧ c.bootWait.isRunning = false ∧ c.hold.isRunning = false ∧ v.phase = .policing := by
  refine ⟨h.on ?_, h.unbooting ?_, ?_, h.policing working⟩
  · obtain e | e := working <;> rw [e] <;> rfl
  · obtain e | e := working <;> simp [e]
  · rw [Bool.eq_false_iff]
    exact fun runs => working.elim (h.held runs).2.1 (h.held runs).2.2

end

/-! ## The lane's work -/

/-- A lane with no walk, no roll call, no read and nothing asked of its line. -/
structure AtRest (c : Column) (owed : Option Byte) : Prop where
  walk : c.walk.phase = .idle
  empty : c.walk.stack = [] ∧ c.walk.root = JunctionList.empty ∧ c.walk.binding = none
  roll : c.roll.phase = .inactive
  period : c.roll.period.isRunning = false
  slot : c.slot = .free
  owed : owed = none
  waiting : c.ctl.rewalkWaiting = false
  line : c.engine.inFlight = none ∧ c.arbiter.procedure = none ∧ c.arbiter.transfer = none

/-- A lane whose walk runs. -/
structure Walks (c : Column) (owed : Option Byte) : Prop where
  walk : c.walk.phase ≠ .idle
  roll : c.roll.phase = .inactive
  period : c.roll.period.isRunning = false
  slot : c.slot = .free
  owed : owed = none
  waiting : c.ctl.rewalkWaiting = false

/-- A lane whose roll call is made. -/
structure Rolls (c : Column) (owed : Option Byte) : Prop where
  walk : c.walk.phase = .idle
  empty : c.walk.stack = [] ∧ c.walk.root = JunctionList.empty ∧ c.walk.binding = none
  roll : c.roll.phase ≠ .inactive
  period : c.roll.period.isRunning = true ↔ c.roll.phase = .waiting ∨ c.roll.phase = .sweeping ∨ c.roll.phase = .probing
  owing : owed.isSome = true ↔ c.slot ≠ .free
  waiting : c.ctl.rewalkWaiting = true ↔ c.roll.phase = .halted
  rewalk : c.ctl.rewalkWaiting = true → c.slot ≠ .free

section

variable {c : Column} {owed : Option Byte}

theorem ColumnInv.ctl (h : ColumnInv c owed) : CtlInv c.ctl c.supervisor where
  settling := h.settling
  granting := h.granting
  fresh := h.fresh
  pendingGrant := h.pendingGrant
  held := h.held
  powered := h.powered
  booting := h.booting
  measuring := h.measuring
  policing := h.policing
  signed := h.signed
  budget := h.budget
  faulted := h.faulted

theorem ColumnInv.idle (h : ColumnInv c owed) (other : c.ctl.state ≠ .walking) : c.walk.phase = .idle := by
  refine Classical.byContradiction fun runs => ?_
  exact other (h.walking.mp runs)

theorem ColumnInv.inactive (h : ColumnInv c owed) (other : c.ctl.state ≠ .ready) :
    c.roll.phase = .inactive ∧ c.roll.period.isRunning = false ∧ c.slot = .free ∧ owed = none ∧
      c.ctl.rewalkWaiting = false := by
  have roll : c.roll.phase = .inactive := by
    refine Classical.byContradiction fun runs => ?_
    exact other (h.rolling.mp runs)
  have slot : c.slot = .free := by
    refine Classical.byContradiction fun busy => ?_
    exact other (h.reading busy)
  refine ⟨roll, ?_, slot, ?_, ?_⟩
  · rw [Bool.eq_false_iff]
    exact fun runs => by simpa [roll] using h.period.mp runs
  · cases tag : owed with
    | none => rfl
    | some _ => exact absurd slot (h.owing.mp (by rw [tag]; rfl))
  · rw [Bool.eq_false_iff]
    exact fun waits => by simpa [roll] using h.waiting.mp waits

theorem ColumnInv.rest (h : ColumnInv c owed) (walking : c.ctl.state ≠ .walking) (ready : c.ctl.state ≠ .ready) :
    AtRest c owed := by
  have line := fun asked => (h.lining asked).elim walking ready
  obtain ⟨roll, period, slot, owed, waiting⟩ := h.inactive ready
  have idle := h.idle walking
  exact
    { walk := idle, empty := h.walkEmpty idle, roll, period, slot, owed, waiting
      line :=
        ⟨Option.not_isSome_iff_eq_none.mp fun x => line (.inl x),
          Option.not_isSome_iff_eq_none.mp fun x => line (.inr (.inl x)),
          Option.not_isSome_iff_eq_none.mp fun x => line (.inr (.inr x))⟩ }

theorem ColumnInv.walks (h : ColumnInv c owed) (walking : c.ctl.state = .walking) : Walks c owed := by
  obtain ⟨roll, period, slot, owed, waiting⟩ := h.inactive (by rw [walking]; nofun)
  exact { walk := h.walking.mpr walking, roll, period, slot, owed, waiting }

theorem ColumnInv.rolls (h : ColumnInv c owed) (ready : c.ctl.state = .ready) : Rolls c owed := by
  have idle := h.idle (by rw [ready]; nofun)
  exact
    { walk := idle, empty := h.walkEmpty idle, roll := h.rolling.mpr ready, period := h.period, owing := h.owing
      waiting := h.waiting, rewalk := h.rewalk }

theorem CtlInv.column (h : CtlInv c.ctl c.supervisor) (walking : c.walk.phase ≠ .idle ↔ c.ctl.state = .walking)
    (walkEmpty : c.walk.phase = .idle → c.walk.stack = [] ∧ c.walk.root = JunctionList.empty ∧ c.walk.binding = none)
    (rolling : c.roll.phase ≠ .inactive ↔ c.ctl.state = .ready)
    (period : c.roll.period.isRunning = true ↔ c.roll.phase = .waiting ∨ c.roll.phase = .sweeping ∨ c.roll.phase = .probing)
    (reading : c.slot ≠ .free → c.ctl.state = .ready) (owing : owed.isSome = true ↔ c.slot ≠ .free)
    (waiting : c.ctl.rewalkWaiting = true ↔ c.roll.phase = .halted) (rewalk : c.ctl.rewalkWaiting = true → c.slot ≠ .free)
    (lining : c.engine.inFlight.isSome = true ∨ c.arbiter.procedure.isSome = true ∨ c.arbiter.transfer.isSome = true →
      c.ctl.state = .walking ∨ c.ctl.state = .ready) : ColumnInv c owed :=
  { h with walking, walkEmpty, rolling, period, reading, owing, waiting, rewalk, lining }

theorem AtRest.column (h : AtRest c owed) (ctl : CtlInv c.ctl c.supervisor) (walking : c.ctl.state ≠ .walking)
    (ready : c.ctl.state ≠ .ready) : ColumnInv c owed := by
  obtain ⟨flight, procedure, transfer⟩ := h.line
  refine ctl.column ?_ (fun _ => h.empty) ?_ ?_ ?_ ?_ ?_ ?_ ?_
  · simp [h.walk, walking]
  · simp [h.roll, ready]
  · simp [h.period, h.roll]
  · simp [h.slot]
  · simp [h.owed, h.slot]
  · simp [h.waiting, h.roll]
  · simp [h.waiting]
  · simp [flight, procedure, transfer]

theorem Walks.column (h : Walks c owed) (ctl : CtlInv c.ctl c.supervisor) (walking : c.ctl.state = .walking) :
    ColumnInv c owed := by
  refine ctl.column ?_ (fun idle => absurd idle h.walk) ?_ ?_ ?_ ?_ ?_ ?_ fun _ => .inl walking
  · simp [h.walk, walking]
  · simp [h.roll, walking]
  · simp [h.period, h.roll]
  · simp [h.slot]
  · simp [h.owed, h.slot]
  · simp [h.waiting, h.roll]
  · simp [h.waiting]

theorem Rolls.column (h : Rolls c owed) (ctl : CtlInv c.ctl c.supervisor) (ready : c.ctl.state = .ready) :
    ColumnInv c owed := by
  refine ctl.column ?_ (fun _ => h.empty) ?_ h.period (fun _ => ready) h.owing h.waiting h.rewalk fun _ => .inr ready
  · simp [h.walk, ready]
  · simp [h.roll, ready]

end

end Sys2Proof.Machine
end

section
/-!
Every operation of a lane leaves its column as the lane state it ends in allows, and so does every command (O6).
-/

namespace Sys2Proof.Machine

/-- The invariant of one lane. -/
def State.holds (s : State) (n : Lane) : Prop := ColumnInv (s.col n) (s.port.owed.get n)

/-- A lane at rest out of power, as the entries into the unpowered states find it. -/
structure LaneQuiet (s : State) (n : Lane) : Prop where
  ctl : Quiet (s.col n).ctl (s.col n).supervisor
  rest : AtRest (s.col n) (s.port.owed.get n)

/-- A command of one lane that leaves its column as its state allows. -/
theorem LanesInv.lane {n : Lane} {s t : State} (h : LanesInv s) (moves : LaneMoves n s t) (own : t.holds n) :
    LanesInv t := by
  intro m
  by_cases same : m = n
  · exact same ▸ own
  · rw [moves.frame.others m same, moves.frame.owed m same]
    exact h m

/-! ## Entries into the unpowered states -/

section

variable {n : Lane} {s : State}

/-- A lane out of power, not in SIGNATURE or AWAIT_GRANT, is quiet. -/
theorem State.holds.quiet (h : s.holds n) (off : (s.laneState n).powered = false) (signature : s.laneState n ≠ .signature)
    (awaitGrant : s.laneState n ≠ .awaitGrant) : LaneQuiet s n where
  ctl := h.ctl.quiet off signature awaitGrant
  rest := by
    refine h.rest ?_ ?_ <;>
    · intro same
      simp [State.laneState, same, LaneState.powered] at off

theorem State.holds.off_rest (h : s.holds n) (off : (s.laneState n).powered = false) :
    AtRest (s.col n) (s.port.owed.get n) := by
  refine h.rest ?_ ?_ <;>
  · intro same
    simp [State.laneState, same, LaneState.powered] at off

theorem enterSettling_col (why : Reason) :
    (enterSettling n why s).col n =
      { s.col n with
        ctl := { (s.col n).ctl with state := .settling, settle := .running s.settings.mateSettle }
        roll := { (s.col n).roll with used := 0 } } := by
  simp [enterSettling]

theorem LaneQuiet.settles (h : LaneQuiet s n) (why : Reason) : (enterSettling n why s).holds n := by
  have rest : AtRest ((enterSettling n why s).col n) ((enterSettling n why s).port.owed.get n) := by
    rw [enterSettling_col]
    simpa [enterSettling] using { h.rest with }
  refine rest.column ?_ ?_ ?_ <;> rw [enterSettling_col]
  · exact h.ctl.settles _
  · nofun
  · nofun

theorem enterParting_col :
    (enterParting n s).col n =
      { s.col n with ctl := { (s.col n).ctl with state := .parting, settle := .running s.settings.mateSettle } } := by
  simp [enterParting]

theorem LaneQuiet.parts (h : LaneQuiet s n) : (enterParting n s).holds n := by
  have rest : AtRest ((enterParting n s).col n) ((enterParting n s).port.owed.get n) := by
    rw [enterParting_col]
    simpa [enterParting] using { h.rest with }
  refine rest.column ?_ ?_ ?_ <;> rw [enterParting_col]
  · exact h.ctl.parts _
  · nofun
  · nofun

/-- A transition to a state that is not a powered one, of a lane at rest. -/
theorem AtRest.moved (h : AtRest (s.col n) (s.port.owed.get n)) {entered : LaneState} (why : Reason)
    (carried : Option (SupplyClass × Int)) (ctl : CtlInv { (s.col n).ctl with state := entered } (s.col n).supervisor)
    (walking : entered ≠ .walking) (ready : entered ≠ .ready) : (transition n entered why carried s).holds n := by
  have rest :
      AtRest ((transition n entered why carried s).col n) ((transition n entered why carried s).port.owed.get n) := by
    rw [transition_col, transition_owed]
    exact { h with }
  refine rest.column ?_ ?_ ?_ <;> rw [transition_col]
  · exact ctl
  · exact walking
  · exact ready

theorem LaneQuiet.empties (h : LaneQuiet s n) (stopped : (s.col n).ctl.settle.isRunning = false) (why : Reason) :
    (transition n .empty why none s).holds n :=
  h.rest.moved why none (h.ctl.empties stopped) nofun nofun

theorem LaneQuiet.faults (h : LaneQuiet s n) (stopped : (s.col n).ctl.settle.isRunning = false) {code : FaultCode}
    (fault : code ≠ .none) (current voltage : Code) : (enterFault n code current voltage s).holds n := by
  unfold enterFault
  refine AtRest.moved ?_ _ _ ?_ nofun nofun
  · simpa using { h.rest with }
  · simpa using Quiet.faults (c := { (s.col n).ctl with fault := code }) { h.ctl with } stopped fault

/-- R8: a quiet lane is powered for the class of its record. -/
theorem LaneQuiet.powers (h : LaneQuiet s n) (stopped : (s.col n).ctl.settle.isRunning = false)
    (valid : (s.col n).ctl.record.final = .valid) (cls : (s.col n).ctl.record.cls.isSome = true) (why : Reason)
    (carried : Option (SupplyClass × Int)) : (enterPowering n why carried s).holds n := by
  unfold enterPowering
  refine AtRest.moved ?_ _ _ ?_ nofun nofun
  · simpa using { h.rest with }
  · simpa using h.ctl.powers stopped valid cls

theorem LaneQuiet.awaits (h : LaneQuiet s n) (stopped : (s.col n).ctl.settle.isRunning = false)
    (valid : (s.col n).ctl.record.final = .valid) (cls : (s.col n).ctl.record.cls.isSome = true) (why : Reason)
    (carried : Option (SupplyClass × Int)) : (enterAwaitGrant n why carried s).holds n := by
  unfold enterAwaitGrant
  refine AtRest.moved ?_ _ _ ?_ nofun nofun
  · simpa using { h.rest with }
  · simpa using h.ctl.awaits stopped valid cls Config.grantWindow

/-- R30: the record of a series that begins. -/
theorem begins_measuring : Measuring SignatureRecord.cleared.beginAttempt where
  attempts := by decide
  first := ⟨rfl, rfl⟩
  second := ⟨⟨rfl, rfl⟩, rfl⟩
  order := nofun
  unjudged := ⟨rfl, rfl⟩

/-- R4, R30: SIGNATURE is entered with its settle timer and its grant window stopped. -/
theorem AtRest.measures (h : AtRest (s.col n) (s.port.owed.get n)) (granting : (s.col n).ctl.grantWindow.isRunning = false)
    (booting : (s.col n).ctl.bootWait.isRunning = false) (opened : (s.col n).supervisor.switch = .opened)
    (stopped : (s.col n).ctl.settle.isRunning = false) (why : Reason) : (enterSignature n why s).holds n := by
  unfold enterSignature
  refine AtRest.moved ?_ _ _ ?_ nofun nofun
  · simpa [placePoint] using { h with }
  · simpa [placePoint] using
      CtlInv.measures (c := { (s.col n).ctl with record := SignatureRecord.cleared.beginAttempt }) granting booting opened
        stopped begins_measuring

/-! ## Leaving the powered states -/

/-- R13: the column of a lane that has left power is quiet. -/
theorem departed_quiet (granting : (s.col n).ctl.grantWindow.isRunning = false) (pending : (s.col n).ctl.grantPending = none)
    (idle : (s.col n).walk.phase = .idle → (s.col n).walk.stack = [] ∧ (s.col n).walk.root = JunctionList.empty ∧
      (s.col n).walk.binding = none)
    (free : (s.col n).slot = .free → s.port.owed.get n = none) : LaneQuiet (departPowered n s) n := by
  constructor
  · rw [departPowered_col]
    exact { granting := granting, pending := pending, booting := rfl, opened := rfl }
  · rw [departPowered_col, departPowered_owed]
    refine
      { walk := ?_, empty := ?_, roll := rfl, period := rfl, slot := rfl, owed := ?_, waiting := rfl, line := ⟨?_, rfl, rfl⟩ }
    · simp only [Column.departed, Column.unpowered]
      split
      · assumption
      · rfl
    · simp only [Column.departed, Column.unpowered]
      split
      · rename_i idles
        exact idle idles
      · exact ⟨rfl, rfl, rfl⟩
    · split
      · exact free ‹_›
      · exact PerLane.get_set_self _ _ _
    · simp only [Column.departed, Column.unpowered]
      split <;> rfl

theorem departPowered_settle : ((departPowered n s).col n).ctl.settle = (s.col n).ctl.settle := by
  rw [departPowered_col]
  rfl

theorem departPowered_settings : (departPowered n s).settings = s.settings := (departPowered_moves .refl).frame.settings

theorem State.holds.unowed (h : s.holds n) (free : (s.col n).slot = .free) : s.port.owed.get n = none := by
  rw [← Option.not_isSome_iff_eq_none]
  exact fun owed => h.owing.mp owed free

theorem State.holds.departs (h : s.holds n) (on : (s.laneState n).powered = true) : LaneQuiet (departPowered n s) n :=
  departed_quiet (h.ctl.on on).granting (h.ctl.on on).pending h.walkEmpty h.unowed

/-- R13, R16: a fault of a lane whose supply may have opened its switch already. -/
theorem State.holds.faulted (h : s.holds n) (on : (s.laneState n).powered = true) {code : FaultCode} (fault : code ≠ .none)
    (current voltage : Code) : (faultPowered n code current voltage s).holds n := by
  unfold faultPowered
  rw [if_pos on]
  refine (h.departs on).faults ?_ fault _ _
  rw [departPowered_settle]
  exact (h.ctl.on on).settle

theorem openSwitch_col : (openSwitch n s).col n = { s.col n with supervisor := Supervisor.reset } := by
  simp [openSwitch, switchOff_eq]

/-- R50: a fault of the supply, whatever its supervisor has come to. -/
theorem State.holds.supplyFaulted (h : s.holds n) (on : (s.laneState n).powered = true) {code : FaultCode}
    (fault : code ≠ .none) (f : Supervisor → Supervisor) : (supplyFault n code (s.modSupervisor n f)).holds n := by
  have powered := h.ctl.on on
  have quiet : LaneQuiet (departPowered n (openSwitch n s)) n := by
    refine departed_quiet ?_ ?_ ?_ ?_ <;> rw [openSwitch_col]
    · exact powered.granting
    · exact powered.pending
    · exact h.walkEmpty
    · exact h.unowed
  have state : (openSwitch n s).laneState n = s.laneState n := by rw [State.laneState, openSwitch_col]; rfl
  unfold supplyFault faultPowered
  rw [openSwitch_modSupervisor, if_pos (state ▸ on)]
  refine quiet.faults ?_ fault _ _
  rw [departPowered_settle, openSwitch_col]
  exact powered.settle

end

/-! ## Contact events and the lane's timers -/

section

variable {n : Lane} {s : State}

theorem LaneQuiet.modCtl (h : LaneQuiet s n) {f : LaneCtl → LaneCtl}
    (granting : (f (s.col n).ctl).grantWindow.isRunning = false)
    (pending : (f (s.col n).ctl).grantPending = none) (booting : (f (s.col n).ctl).bootWait.isRunning = false)
    (waiting : (f (s.col n).ctl).rewalkWaiting = false) : LaneQuiet (s.modCtl n f) n where
  ctl := by
    rw [State.modCtl_col]
    exact { granting, pending, booting, opened := h.ctl.opened }
  rest := by
    rw [State.modCtl_col]
    exact { h.rest with waiting }

theorem LaneQuiet.withdrawJobs (h : LaneQuiet s n) : LaneQuiet (withdrawJobs n s) n := ⟨h.ctl, h.rest⟩

/-- What an operation makes of a lane's column and of what it owes, as the lane's state allows. -/
theorem State.holds.of_col {t : State} {c : Column} {owed : Option Byte} (inv : ColumnInv c owed) (col : t.col n = c)
    (same : t.port.owed.get n = owed) : t.holds n := by
  unfold State.holds
  rw [col, same]
  exact inv

theorem holds_modCtl {f : LaneCtl → LaneCtl}
    (inv : ColumnInv { s.col n with ctl := f (s.col n).ctl } (s.port.owed.get n)) : (s.modCtl n f).holds n :=
  .of_col inv (State.modCtl_col _ _ _) rfl

theorem holds_modSupervisor {f : Supervisor → Supervisor}
    (inv : ColumnInv { s.col n with supervisor := f (s.col n).supervisor } (s.port.owed.get n)) :
    (s.modSupervisor n f).holds n :=
  .of_col inv (State.modSupervisor_col _ _ _) rfl

theorem State.holds.setReading (h : s.holds n) (x : Reading) : (setReading n x s).holds n :=
  holds_modCtl { h with }

theorem State.holds.openAction (h : s.holds n) : (openAction n s).holds n := by
  unfold Machine.openAction
  split
  · exact h
  · exact h
  · rename_i state
    have quiet := h.quiet (by rw [state]; rfl) (by rw [state]; nofun) (by rw [state]; nofun)
    refine (quiet.modCtl quiet.ctl.granting quiet.ctl.pending quiet.ctl.booting quiet.rest.waiting).empties ?_ _
    simp
  · rename_i state
    have off : (s.laneState n).powered = false := by rw [state]; rfl
    have rest := h.off_rest off
    have quiet : LaneQuiet (s.modCtl n fun c => { c with grantPending := none }) n := by
      constructor
      · simpa using
          Quiet.mk (c := { (s.col n).ctl with grantPending := none })
            (h.ctl.windowless (by rw [State.laneState] at state; rw [state]; nofun)) rfl
            (h.ctl.unbooting (powering_powered off)) (h.ctl.opened off)
      · simpa using { rest with }
    exact quiet.withdrawJobs.parts
  · rename_i state
    have off : (s.laneState n).powered = false := by rw [state]; rfl
    have rest := h.off_rest off
    have quiet : LaneQuiet (s.modCtl n fun c => { c with grantWindow := .stopped }) n := by
      constructor
      · simpa using
          Quiet.mk (c := { (s.col n).ctl with grantWindow := .stopped }) rfl
            (h.ctl.unpending (by rw [State.laneState] at state; rw [state]; nofun))
            (h.ctl.unbooting (powering_powered off)) (h.ctl.opened off)
      · simpa using { rest with }
    exact quiet.parts
  · rename_i state
    exact (h.departs (by rw [state]; rfl)).parts
  · rename_i state
    exact (h.departs (by rw [state]; rfl)).parts
  · rename_i state
    exact (h.departs (by rw [state]; rfl)).parts
  · rename_i state
    exact holds_modCtl { h with settling := iff_of_true rfl (.inr state) }
  · rename_i state
    exact (h.quiet (by rw [state]; rfl) (by rw [state]; nofun) (by rw [state]; nofun)).parts

theorem State.holds.mateAction (h : s.holds n) : (mateAction n s).holds n := by
  unfold Machine.mateAction
  split
  · rename_i state
    exact (h.quiet (by rw [state]; rfl) (by rw [state]; nofun) (by rw [state]; nofun)).settles _
  · rename_i state
    exact (h.quiet (by rw [state]; rfl) (by rw [state]; nofun) (by rw [state]; nofun)).settles _
  all_goals exact h

/-- R3, R15: the settle timer's end, in SETTLING or PARTING. -/
theorem State.holds.settleExpired (h : s.holds n) (runs : (s.col n).ctl.settle.isRunning = true) :
    (settleExpired n (s.modCtl n fun c => { c with settle := .stopped })).holds n := by
  have same : (s.modCtl n fun c => { c with settle := .stopped }).laneState n = s.laneState n := by
    simp [State.laneState]
  unfold Machine.settleExpired
  rw [same]
  obtain state | state := h.settling.mp runs
  · have quiet := h.quiet (by rw [State.laneState, state]; rfl) (by rw [State.laneState, state]; nofun)
      (by rw [State.laneState, state]; nofun)
    simp only [State.laneState, state]
    refine AtRest.measures ?_ ?_ ?_ ?_ ?_ _
    · simpa using { quiet.rest with }
    · simpa using quiet.ctl.granting
    · simpa using quiet.ctl.booting
    · simpa using quiet.ctl.opened
    · simp
  · have quiet := h.quiet (by rw [State.laneState, state]; rfl) (by rw [State.laneState, state]; nofun)
      (by rw [State.laneState, state]; nofun)
    simp only [State.laneState, state]
    refine (quiet.modCtl quiet.ctl.granting quiet.ctl.pending quiet.ctl.booting quiet.rest.waiting).empties ?_ _
    simp

/-- R5: the grant window's end. -/
theorem State.holds.windowExpired (h : s.holds n) :
    (s.modCtl n fun c => { c with grantWindow := .stopped, mark := .stale }).holds n :=
  holds_modCtl { h with granting := nofun, fresh := fun _ => iff_of_false nofun nofun }

/-- R14: the hold's end. -/
theorem State.holds.holdExpired (h : s.holds n) :
    (removeAway n (s.modCtl n fun c => { c with hold := .stopped })).holds n :=
  .of_col (c := { s.col n with ctl := { (s.col n).ctl with hold := .stopped } }) { h with held := nofun }
    (by simp [removeAway]) (by rw [removeAway, removeCounted_owed]; rfl)

/-- R84: a grant asks for a lane in which the line may work. -/
theorem State.holds.lineGrant (h : s.holds n) : (lineGrant n s).holds n := by
  refine .of_col (c := (s.col n).lineGranted s.settings n) ?_ (by rw [lineGrant_eq, withColumn_col])
    (by rw [lineGrant_eq])
  have own : ColumnInv (s.col n) (s.port.owed.get n) := h
  unfold Column.lineGranted
  split
  · split
    · exact own
    · rename_i q r choice
      refine { own with lining := fun _ => own.lining ?_ }
      unfold LineArbiter.choice at choice
      split at choice
      · cases choice
      · rename_i procedure _
        exact .inr (.inl (by rw [procedure]; rfl))
      · rename_i transfer
        exact .inr (.inr (by rw [transfer]; rfl))
      · rename_i procedure _
        exact .inr (.inl (by rw [procedure]; rfl))
  · exact own

/-- R10: WALKING is entered with the walk started. -/
theorem enterWalking_holds (ctl : Powered (s.col n).ctl (s.col n).supervisor)
    (booting : (s.col n).ctl.bootWait.isRunning = false)
    (policing : (s.col n).supervisor.phase = .policing)
    (roll : (s.col n).roll.phase = .inactive ∧ (s.col n).roll.period.isRunning = false) (slot : (s.col n).slot = .free)
    (owed : s.port.owed.get n = none) (waiting : (s.col n).ctl.rewalkWaiting = false) (why : Reason) :
    (enterWalking n why s).holds n := by
  have stopped : Powered { (s.col n).ctl with hold := .stopped } (s.col n).supervisor := { ctl with }
  have walks : Walks
      { s.col n with
        ctl := { (s.col n).ctl with state := .walking, hold := .stopped }
        arbiter := { (s.col n).arbiter with procedure := some (releaseRequest Config.allHandle) }
        walk := WalkUnit.started } none :=
    { walk := nofun, roll := roll.1, period := roll.2, slot, owed := rfl, waiting }
  refine .of_col (walks.column (stopped.walks booting rfl policing) rfl) ?_ ?_
  · simp [enterWalking, startWalk, placeRequest]
  · simpa [enterWalking, startWalk, placeRequest] using owed

/-- R9, R10: the boot wait's end. -/
theorem State.holds.bootExpired (h : s.holds n) (runs : (s.col n).ctl.bootWait.isRunning = true) :
    (enterWalking n .bootDone (s.modCtl n fun c => { c with bootWait := .stopped })).holds n := by
  obtain ⟨state, policing⟩ := h.booting.mp runs
  have powered := h.ctl.on (by rw [state]; rfl)
  have rest := h.rest (by rw [state]; nofun) (by rw [state]; nofun)
  refine enterWalking_holds ?_ ?_ ?_ ?_ ?_ ?_ ?_ _
  · simpa using { powered with }
  · simp
  · simpa using policing
  · simpa using ⟨rest.roll, rest.period⟩
  · simpa using rest.slot
  · exact rest.owed
  · simpa using rest.waiting

end

/-! ## The supply's events -/

theorem modSupervisor_self (n : Lane) (s : State) : (s.modSupervisor n fun v => v) = s :=
  withColumn_self s n

section

variable {n : Lane} {s : State}

/-- R45: a trip comparator is armed in a powered lane alone. -/
theorem State.holds.tripCheck (h : s.holds n) (supply : SupplyInv s) (milliamps : Nat) :
    (tripCheck n milliamps s).holds n := by
  unfold Machine.tripCheck
  split
  · rename_i trips
    have phase : (s.col n).supervisor.phase ≠ .idle := by
      intro idle
      simp [Supervisor.trips, Supervisor.comparator, idle] at trips
    have own := supply.at n
    have faulted := h.supplyFaulted (own.closed (own.closed_of_phase phase)).1 (code := .short) nofun fun v => v
    rwa [modSupervisor_self] at faulted
  · exact h

/-- R44: CHECK begins. -/
theorem State.holds.inrushExpired (h : s.holds n) (inrush : (s.col n).supervisor.phase = .inrush) :
    (inrushExpired n s).holds n := by
  have notPolicing : (s.col n).supervisor.phase ≠ .policing := by rw [inrush]; nofun
  refine .of_col (c := { s.col n with supervisor := (s.col n).supervisor.endInrush }) ?_ ?_ rfl
  · exact
      { h with
        booting := iff_of_false (fun runs => notPolicing (h.booting.mp runs).2) nofun
        policing := fun working => absurd (h.policing working) notPolicing }
  · simp [Machine.inrushExpired]

/-- R44: a sample falls due. -/
theorem State.holds.sampleDue (h : s.holds n) :
    ((s.modSupervisor n fun v => { v with samplePeriod := .running Config.samplePeriod }).modConverter fun c =>
      c.place .sample n).holds n :=
  .of_col (c := { s.col n with supervisor := { (s.col n).supervisor with samplePeriod := .running Config.samplePeriod } })
    { h with } (by simp) rfl

/-- R9, R47: power good is decided in POWERING. -/
theorem State.holds.decidePowerGood (h : s.holds n) (on : (s.laneState n).powered = true)
    (check : (s.col n).supervisor.phase = .check) (voltage : Code) : (decidePowerGood n voltage s).holds n := by
  have notPolicing : (s.col n).supervisor.phase ≠ .policing := by rw [check]; nofun
  have state : (s.col n).ctl.state = .powering := by
    rw [State.laneState] at on
    cases e : (s.col n).ctl.state with
    | powering => rfl
    | walking => exact absurd (h.policing (.inl e)) notPolicing
    | ready => exact absurd (h.policing (.inr e)) notPolicing
    | _ => simp [e, LaneState.powered] at on
  unfold Machine.decidePowerGood
  split
  · refine .of_col
      (c := { s.col n with
        ctl := { (s.col n).ctl with bootWait := .running s.settings.bootWait }
        supervisor := { (s.col n).supervisor with phase := .policing, lowCount := 0 } }) ?_ ?_ rfl
    · exact { h with booting := iff_of_true rfl ⟨state, rfl⟩, policing := fun _ => rfl }
    · simp [powerGood]
  · exact h.faulted on (code := .noPowerGood) nofun _ _

theorem State.holds.sampleResult (h : s.holds n) (supply : SupplyInv s) (closed : (s.col n).supervisor.switch = .closed)
    (current voltage : Code) : (sampleResult n current voltage s).holds n := by
  have on := ((supply.at n).closed closed).1
  have stored : (s.modSupervisor n fun v => v.store current voltage).holds n := holds_modSupervisor { h with }
  have storedOn : ((s.modSupervisor n fun v => v.store current voltage).laneState n).powered = true := by
    simpa [State.laneState] using on
  unfold Machine.sampleResult
  simp only
  split
  · exact h.supplyFaulted on (code := .overload) nofun _
  · split
    · rename_i check
      exact stored.decidePowerGood storedOn check _
    · unfold policeVoltage
      simp only
      split
      · exact stored.supplyFaulted storedOn (code := .supplyLow) nofun _
      · exact holds_modSupervisor { stored with }
    · exact stored
    · exact stored

/-! ## A series -/

/-- R24 to R28: a point written into the record of a series that runs: its measurements go on, or the attempt is judged. -/
theorem writePoint_measures {r : SignatureRecord} (h : Measuring r) (code : Code) :
    Measuring (r.writePoint code) ∨
      ((r.writePoint code).attemptVerdict ≠ none ∧ (r.writePoint code).final = .none ∧
        (r.writePoint code).attempts = r.attempts ∧
        ((r.writePoint code).attemptVerdict = some .valid → (r.writePoint code).endValid.cls.isSome = true)) := by
  have second : r.m2.slope = none ∧ r.m2.verdict = none := by
    have follows := h.second.1
    unfold Measurement.follows at follows
    simpa only [h.second.2] using follows
  have secondFollows : ∀ v, Measurement.follows { r.m2 with v1 := v } := by
    intro v
    unfold Measurement.follows
    cases v <;> simpa [h.second.2] using second
  have first := h.first
  unfold Measurement.follows at first
  cases h1 : r.m1.v1 with
  | none =>
    cases h2 : r.m1.v2 with
    | none =>
      simp only [h1, h2] at first
      refine .inl ?_
      simp only [SignatureRecord.writePoint, h1]
      refine { h with first := ?_, order := fun m2 => by simpa [h2] using h.order m2 }
      unfold Measurement.follows
      simpa [h2] using first
    | some b => simp [h1, h2] at first
  | some a =>
    cases h2 : r.m1.v2 with
    | none =>
      refine .inl ?_
      simp only [SignatureRecord.writePoint, h1, h2]
      refine { h with first := ?_, order := fun _ => rfl }
      simp [Measurement.follows, Measurement.judge, h1]
    | some b =>
      simp only [h1, h2] at first
      cases h3 : r.m2.v1 with
      | none =>
        refine .inl ?_
        simp only [SignatureRecord.writePoint, h1, h2, h3]
        exact { h with second := ⟨secondFollows _, h.second.2⟩, order := fun _ => by rw [h2]; rfl }
      | some d =>
        refine .inr ?_
        obtain ⟨slope1, verdict1⟩ := first
        simp only [SignatureRecord.writePoint, h1, h2, h3, SignatureRecord.judged, Measurement.judge, slope1, verdict1]
        refine ⟨nofun, h.unjudged.2, trivial, fun valid => ?_⟩
        simp only [Option.some.injEq] at valid
        unfold judgeAttempt at valid
        split at valid
        · rename_i y e
          simp [SignatureRecord.endValid, MeasurementVerdict.cls, e]
        · cases valid
        · cases valid

/-- A lane in SIGNATURE but for its record. -/
structure InSeries (s : State) (n : Lane) : Prop where
  granting : (s.col n).ctl.grantWindow.isRunning = false
  booting : (s.col n).ctl.bootWait.isRunning = false
  opened : (s.col n).supervisor.switch = .opened
  stopped : (s.col n).ctl.settle.isRunning = false
  rest : AtRest (s.col n) (s.port.owed.get n)
  state : (s.col n).ctl.state = .signature

theorem InSeries.modCtl (h : InSeries s n) {f : LaneCtl → LaneCtl}
    (granting : (f (s.col n).ctl).grantWindow = (s.col n).ctl.grantWindow)
    (booting : (f (s.col n).ctl).bootWait = (s.col n).ctl.bootWait)
        (stopped : (f (s.col n).ctl).settle = (s.col n).ctl.settle)
    (waiting : (f (s.col n).ctl).rewalkWaiting = (s.col n).ctl.rewalkWaiting)
    (state : (f (s.col n).ctl).state = (s.col n).ctl.state) : InSeries (s.modCtl n f) n := by
  have rest : AtRest { s.col n with ctl := f (s.col n).ctl } (s.port.owed.get n) :=
    { h.rest with waiting := waiting ▸ h.rest.waiting }
  constructor <;> rw [State.modCtl_col]
  · exact granting ▸ h.granting
  · exact booting ▸ h.booting
  · exact h.opened
  · exact stopped ▸ h.stopped
  · exact rest
  · exact state ▸ h.state

theorem State.holds.inSeries (h : s.holds n) (state : s.laneState n = .signature) : InSeries s n := by
  have state : (s.col n).ctl.state = .signature := state
  have apart : ∀ x : LaneState, x ≠ .signature → (s.col n).ctl.state ≠ x := fun x other same => other (same.symm.trans state)
  exact
    { granting := h.ctl.windowless (apart _ nofun), booting := h.ctl.unbooting (apart _ nofun)
      opened := h.ctl.opened (by rw [state]; rfl), stopped := h.ctl.unsettled (apart _ nofun) (apart _ nofun)
      rest := h.off_rest (by rw [State.laneState, state]; rfl), state }

/-- A series that runs. -/
theorem InSeries.measures (h : InSeries s n) (measuring : Measuring (s.col n).ctl.record) : s.holds n := by
  have ctl := CtlInv.measures h.granting h.booting h.opened h.stopped measuring
  rw [← h.state] at ctl
  refine h.rest.column ctl ?_ ?_ <;>
  · rw [h.state]
    nofun

theorem InSeries.quiet (h : InSeries s n) (pending : (s.col n).ctl.grantPending = none) : LaneQuiet s n :=
  ⟨{ granting := h.granting, pending, booting := h.booting, opened := h.opened }, h.rest⟩

/-- R4, R6, R16: a series that has failed. -/
theorem InSeries.fails (h : InSeries s n) (final : FinalVerdict) {code : FaultCode} (fault : code ≠ .none) :
    (failSeries n final code s).holds n := by
  have cleared : InSeries (s.modCtl n fun c => { c with grantPending := none, record := { c.record with final } }) n :=
    h.modCtl rfl rfl rfl rfl rfl
  have quiet := cleared.quiet (by rw [State.modCtl_col])
  exact quiet.withdrawJobs.faults cleared.stopped fault _ _

/-- R4, R6: a VALID verdict is acted on. -/
theorem InSeries.acts (h : InSeries s n) (valid : (s.col n).ctl.record.final = .valid)
    (cls : (s.col n).ctl.record.cls.isSome = true) : (actOnValid n s).holds n := by
  have spent : InSeries (s.modCtl n fun c => { c with grantPending := none }) n := h.modCtl rfl rfl rfl rfl rfl
  have quiet := spent.quiet (by rw [State.modCtl_col])
  unfold actOnValid
  simp only
  split
  · split
    · exact quiet.powers spent.stopped (by rw [State.modCtl_col]; exact valid) (by rw [State.modCtl_col]; exact cls) _ _
    · exact quiet.awaits spent.stopped (by rw [State.modCtl_col]; exact valid) (by rw [State.modCtl_col]; exact cls) _ _
  · rename_i none
    split
    · exact (h.quiet none).powers h.stopped valid cls _ _
    · exact (h.quiet none).awaits h.stopped valid cls _ _

/-- R24, R28, R30: a series goes on with its next point or its next attempt, or ends. -/
theorem InSeries.continues (h : InSeries s n) {r : SignatureRecord} (measuring : Measuring r) {code : Code}
    (written : (s.col n).ctl.record = r.writePoint code) : (continueSeries n s).holds n := by
  have after := writePoint_measures measuring code
  rw [← written] at after
  have retried : (s.col n).ctl.record.attemptVerdict ≠ none →
      (if (s.col n).ctl.record.attempts < Config.seriesAttempts then
        placePoint n (s.modCtl n fun c => { c with record := c.record.beginAttempt })
      else failSeries n .signatureBad .signatureBad s).holds n := by
    intro judged
    obtain ⟨_, final, attempts, _⟩ := after.resolve_left fun m => judged m.unjudged.1
    split
    · rename_i few
      have begun : InSeries (s.modCtl n fun c => { c with record := c.record.beginAttempt }) n :=
        h.modCtl rfl rfl rfl rfl rfl
      refine begun.measures (s := s.modCtl n fun c => { c with record := c.record.beginAttempt }) ?_
      rw [State.modCtl_col]
      exact
        { attempts := ⟨Nat.le_add_left _ _, few⟩, first := ⟨rfl, rfl⟩, second := ⟨⟨rfl, rfl⟩, rfl⟩, order := nofun
          unjudged := ⟨rfl, final⟩ }
    · exact h.fails _ (code := .signatureBad) nofun
  unfold continueSeries
  simp only
  split
  · rename_i unjudged
    exact h.measures (after.resolve_right fun ⟨judged, _⟩ => judged unjudged)
  · rename_i valid
    obtain ⟨_, _, _, cls⟩ := after.resolve_left fun m => absurd (m.unjudged.1.symm.trans valid) nofun
    have ended : InSeries (s.modCtl n fun c => { c with record := c.record.endValid }) n := h.modCtl rfl rfl rfl rfl rfl
    refine ended.acts ?_ ?_ <;> rw [State.modCtl_col]
    · rfl
    · exact cls valid
  · exact h.fails _ (code := .signatureShort) nofun
  · exact retried (by rw [‹(s.col n).ctl.record.attemptVerdict = _›]; nofun)
  · exact retried (by rw [‹(s.col n).ctl.record.attemptVerdict = _›]; nofun)

theorem State.holds.pointHandled (h : s.holds n) (live : Bool) (code : Code) (contact : Contact) :
    (pointHandled n live code contact s).holds n := by
  have sampled := h.setReading contact.reads
  unfold Machine.pointHandled
  simp only
  split
  · exact sampled.openAction
  · split
    · rename_i measuring
      have state : s.laneState n = .signature := by simpa using (Bool.and_eq_true_iff.mp measuring).2
      have series := sampled.inSeries ((setReading_laneState _).trans state)
      have written : InSeries ((Machine.setReading n contact.reads s).modCtl n
          fun c => { c with record := c.record.writePoint code }) n :=
        series.modCtl rfl rfl rfl rfl rfl
      refine written.continues (sampled.measuring series.state) (code := code) ?_
      rw [State.modCtl_col]
    · exact sampled

end

end Sys2Proof.Machine
end

section
/-!
The ends of attempts, the sweep, the PROBEs, the reads, the requests and the resets leave each lane's column as its state
allows; and the statement on the supply and the lane states (O6).
-/

namespace Sys2Proof.Machine

section

variable {n : Lane} {s : State}

/-! ## The line -/

theorem State.holds.modEngine (h : s.holds n) {f : Engine → Engine}
    (flight : (f (s.col n).engine).inFlight.isSome = true → (s.col n).engine.inFlight.isSome = true) :
    (s.modEngine n f).holds n :=
  .of_col (c := { s.col n with engine := f (s.col n).engine })
    { h with lining := fun asked => h.lining (asked.imp_left flight) } (State.modEngine_col _ _ _) rfl

/-- The states in which a lane's line works. -/
def State.working (s : State) (n : Lane) : Prop := (s.col n).ctl.state = .walking ∨ (s.col n).ctl.state = .ready

theorem State.holds.engine (h : s.holds n) (working : s.working n) (f : Engine → Engine) : (s.modEngine n f).holds n :=
  .of_col (c := { s.col n with engine := f (s.col n).engine }) { h with lining := fun _ => working }
    (State.modEngine_col _ _ _) rfl

theorem State.holds.placeRequest (h : s.holds n) (working : s.working n) (q : Requester) (r : LineRequest) :
    (placeRequest n q r s).holds n := by
  unfold State.holds Machine.placeRequest
  rw [State.modArbiter_col]
  exact { h with lining := fun _ => working }

theorem working_modEngine (working : s.working n) (f : Engine → Engine) : (s.modEngine n f).working n := by
  simpa [State.working] using working

@[simp] theorem countLineError_owed (k : EntryKey) (s : State) : (countLineError k s).port.owed = s.port.owed := by
  unfold countLineError
  split
  · rfl
  · rw [raiseRoster_owed]
    rfl

theorem State.holds.countLineError (h : s.holds n) (k : EntryKey) : (countLineError k s).holds n :=
  .of_col h (by simp [State.col]) (by simp)

theorem working_countLineError (working : s.working n) (k : EntryKey) : (countLineError k s).working n := by
  simpa [State.working, State.col] using working

/-! ## The walk is started again (R11, R12) -/

theorem leaveReady_col :
    (leaveReady n s).col n =
      { s.col n with
        ctl := { (s.col n).ctl with rewalkWaiting := false }
        engine := (s.col n).engine.abort
        arbiter := LineArbiter.reset
        slot := .free
        roll := (s.col n).roll.stopped } := by
  rw [leaveReady_eq]
  exact withColumn_col _ _ _

theorem leaveReady_owed (free : (s.col n).slot = .free → s.port.owed.get n = none) :
    (leaveReady n s).port.owed.get n = none := by
  rw [leaveReady_eq]
  by_cases slot : (s.col n).slot = .free
  · simp [slot, free slot]
  · simp [slot]

/-- R11: a lane in READY is walked again, whatever its roll call has come to. -/
theorem rewalk_holds (ctl : CtlInv (s.col n).ctl (s.col n).supervisor) (ready : (s.col n).ctl.state = .ready)
    (free : (s.col n).slot = .free → s.port.owed.get n = none) {used : RollCall → RollCall}
    (keeps : ∀ r, (used r).phase = r.phase ∧ (used r).period = r.period) (why : Reason) :
    (enterWalking n why ((leaveReady n s).modRoll n used)).holds n := by
  obtain ⟨powered, booting, _, policing⟩ := ctl.policed (.inr ready)
  have owed : ((leaveReady n s).modRoll n used).port.owed.get n = none := leaveReady_owed free
  refine enterWalking_holds ?_ ?_ ?_ ⟨?_, ?_⟩ ?_ owed ?_ _ <;> rw [State.modRoll_col, leaveReady_col]
  · exact { powered with }
  · exact booting
  · exact policing
  · exact (keeps _).1
  · exact congrArg Timer.isRunning (keeps _).2

theorem modRoll_self (n : Lane) (s : State) : (s.modRoll n fun r => r) = s := withColumn_self s n

theorem sweepRewalk_holds (ctl : CtlInv (s.col n).ctl (s.col n).supervisor) (ready : (s.col n).ctl.state = .ready)
    (free : (s.col n).slot = .free → s.port.owed.get n = none) : (sweepRewalk n s).holds n := by
  have walked := rewalk_holds ctl ready free (used := fun r => r) (fun _ => ⟨rfl, rfl⟩) .sweepAnswer
  rwa [modRoll_self] at walked

/-! ## Roll call (R134 to R138) -/

/-- What the operations of a period's work leave of their lane: everything but the roll-call unit, which works on with its
timer kept, and the line arbiter. -/
structure RollFrame (n : Lane) (s t : State) : Prop where
  col : ∃ r a, t.col n = { s.col n with roll := r, arbiter := a } ∧
    (r.phase = .waiting ∨ r.phase = .sweeping ∨ r.phase = .probing) ∧ r.period = (s.col n).roll.period
  owed : t.port.owed = s.port.owed

theorem RollFrame.roll {f : RollCall → RollCall} {t : State} (period : (f (s.col n).roll).period = (s.col n).roll.period)
    (h : RollFrame n (s.modRoll n f) t) : RollFrame n s t := by
  obtain ⟨⟨r, a, col, phase, kept⟩, owed⟩ := h
  rw [State.modRoll_col] at col kept
  exact ⟨⟨r, a, col, phase, kept.trans period⟩, owed⟩

theorem placeProbe_rolls (j : Nat) : RollFrame n s (placeProbe n j s) := by
  refine ⟨⟨{ (s.col n).roll with phase := .probing, position := some j },
    { (s.col n).arbiter with procedure := some (probeRequest j) }, ?_, .inr (.inr rfl), rfl⟩, rfl⟩
  simp [placeProbe, placeRequest]

theorem restRoll_rolls : RollFrame n s (restRoll n s) :=
  ⟨⟨_, _, State.modRoll_col _ _ _, .inl rfl, rfl⟩, rfl⟩

theorem startWork_rolls : RollFrame n s (startWork n s) := by
  unfold startWork
  split
  · refine ⟨⟨{ (s.col n).roll with phase := .sweeping, position := none },
      { (s.col n).arbiter with procedure := some enrolRequest }, ?_, .inr (.inl rfl), rfl⟩, rfl⟩
    simp [placeRequest]
  · split
    · exact placeProbe_rolls _
    · exact restRoll_rolls

theorem probeNext_rolls : RollFrame n s (probeNext n s) := by
  unfold probeNext
  split
  · exact placeProbe_rolls _
  · unfold endWork
    split
    · exact .roll rfl startWork_rolls
    · exact restRoll_rolls

/-- A period's work in a lane whose timer runs. -/
theorem RollFrame.holds {t : State} (frame : RollFrame n s t) (ctl : CtlInv (s.col n).ctl (s.col n).supervisor)
    (ready : (s.col n).ctl.state = .ready) (rolls : Rolls (s.col n) (s.port.owed.get n))
    (runs : (s.col n).roll.period.isRunning = true) : t.holds n := by
  obtain ⟨⟨r, a, col, phase, period⟩, owed⟩ := frame
  have unhalted : r.phase ≠ .halted := by obtain e | e | e := phase <;> (rw [e]; nofun)
  have active : r.phase ≠ .inactive := by obtain e | e | e := phase <;> (rw [e]; nofun)
  have waiting : (s.col n).ctl.rewalkWaiting = false := by
    rw [Bool.eq_false_iff]
    intro waits
    simpa [rolls.waiting.mp waits] using rolls.period.mp runs
  have rolls' : Rolls { s.col n with roll := r, arbiter := a } (s.port.owed.get n) :=
    { rolls with
      roll := active
      period := iff_of_true (period ▸ runs) phase
      waiting := iff_of_false (by simp [waiting]) unhalted }
  exact .of_col (rolls'.column ctl ready) col (by rw [owed])

theorem State.holds.ready (h : s.holds n) (phase : (s.col n).roll.phase ≠ .inactive) : (s.col n).ctl.state = .ready :=
  h.rolling.mp phase

/-- R134: the period's expiry. -/
theorem State.holds.periodExpiry (h : s.holds n) : (periodExpiry n s).holds n := by
  have restarts : (s.col n).roll.phase = .waiting ∨ (s.col n).roll.phase = .sweeping ∨ (s.col n).roll.phase = .probing →
      (s.col n).ctl.state = .ready ∧
        ∀ f : RollCall → RollCall, (∀ r, (f r).phase = r.phase ∧ (f r).period.isRunning = true) →
          Rolls { s.col n with roll := f (s.col n).roll } (s.port.owed.get n) := by
    intro phase
    have ready := h.ready (by obtain e | e | e := phase <;> (rw [e]; nofun))
    have rolls := ColumnInv.rolls h ready
    refine ⟨ready, fun f keeps => ?_⟩
    obtain ⟨same, runs⟩ := keeps (s.col n).roll
    exact
      { rolls with
        roll := by rw [same]; exact rolls.roll
        period := iff_of_true runs (by rw [same]; exact phase)
        waiting := by rw [same]; exact rolls.waiting }
  unfold Machine.periodExpiry
  simp only
  split
  · rename_i phase
    obtain ⟨ready, rolls⟩ := restarts (.inl phase)
    refine startWork_rolls.holds ?_ ?_ ?_ ?_ <;> rw [State.modRoll_col]
    · exact h.ctl
    · exact ready
    · exact rolls (fun r => { r with period := .running s.settings.rollCallPeriod }) fun _ => ⟨rfl, rfl⟩
    · rfl
  · rename_i phase
    obtain ⟨ready, rolls⟩ := restarts (.inr (.inl phase))
    refine .of_col ((rolls (fun r => { r with period := .running s.settings.rollCallPeriod, deferred := true })
      fun _ => ⟨rfl, rfl⟩).column h.ctl ready) ?_ rfl
    simp
  · rename_i phase
    obtain ⟨ready, rolls⟩ := restarts (.inr (.inr phase))
    refine .of_col ((rolls (fun r => { r with period := .running s.settings.rollCallPeriod, deferred := true })
      fun _ => ⟨rfl, rfl⟩).column h.ctl ready) ?_ rfl
    simp
  · exact h
  · exact h

/-- R12, R136: the sweep's end. -/
theorem State.holds.sweepResult (h : s.holds n) (sweeping : (s.col n).roll.phase = .sweeping) (p : TransactionReport) :
    (sweepResult n p s).holds n := by
  have ready := h.ready (by rw [sweeping]; nofun)
  have rolls := ColumnInv.rolls h ready
  unfold Machine.sweepResult
  split
  · unfold takeSweepAnswer
    split
    · refine sweepRewalk_holds ?_ ?_ ?_ <;> rw [State.modRoll_col]
      · exact h.ctl
      · exact ready
      · exact h.unowed
    · rename_i r busy
      rw [State.modRoll_col] at busy
      have busy : (s.col n).slot = .busy r := busy
      have halted : Rolls
          { s.col n with
            ctl := { (s.col n).ctl with rewalkWaiting := true }
            roll := (s.col n).roll.answered } (s.port.owed.get n) :=
        { rolls with
          roll := nofun
          period := iff_of_false nofun (by simp [RollCall.answered])
          waiting := iff_of_true rfl rfl
          rewalk := fun _ => by rw [busy]; nofun }
      exact .of_col (halted.column { h.ctl with } ready) (by simp) rfl
  · have runs := rolls.period.mpr (.inr (.inl sweeping))
    exact (RollFrame.roll (f := fun r => { r with phase := .probing, position := none }) rfl probeNext_rolls).holds h.ctl ready
      rolls runs

@[simp] theorem writeProbe_columns (j : Nat) (p : TransactionReport) : (writeProbe n j p s).columns = s.columns := by
  unfold writeProbe
  split
  · rfl
  · rw [raiseRoster_columns]
    rfl

@[simp] theorem writeProbe_owed (j : Nat) (p : TransactionReport) : (writeProbe n j p s).port.owed = s.port.owed := by
  unfold writeProbe
  split
  · rfl
  · rw [raiseRoster_owed]
    rfl

theorem State.holds.rollResult (h : s.holds n) (p : TransactionReport) : (rollResult n p s).holds n := by
  unfold Machine.rollResult
  split
  · exact h.sweepResult ‹_› p
  · rename_i probing
    have ready := h.ready (by rw [probing]; nofun)
    have rolls := ColumnInv.rolls h ready
    have runs := rolls.period.mpr (.inr (.inr probing))
    unfold probeResult
    split
    · rename_i j _
      have col : (writeProbe n j p s).col n = s.col n := by simp [State.col]
      refine probeNext_rolls.holds ?_ ?_ ?_ ?_ <;> rw [col]
      · exact h.ctl
      · exact ready
      · rw [writeProbe_owed]
        exact rolls
      · exact runs
    · exact probeNext_rolls.holds h.ctl ready rolls runs
  all_goals exact h

/-! ## The transfer slot (R88, R89) -/

theorem endRead_col (st : Status) (r : Read) : (endRead n st r s).col n = { s.col n with slot := .free } := by
  unfold endRead
  simp only
  split
  · exact State.setSlot_col _ _ _
  · exact State.setSlot_col _ _ _

theorem endRead_owed (st : Status) (r : Read) : (endRead n st r s).port.owed.get n = none := by
  unfold endRead
  simp only
  split
  · exact PerLane.get_set_self _ _ _
  · exact PerLane.get_set_self _ _ _

/-- R12, R89: a read that ends in READY; a re-walk that waits for it is made. -/
theorem finishRead_holds (ctl : CtlInv (s.col n).ctl (s.col n).supervisor) (ready : (s.col n).ctl.state = .ready)
    (rolls : Rolls (s.col n) (s.port.owed.get n)) (st : Status) (r : Read) : (finishRead n st r s).holds n := by
  unfold finishRead
  simp only
  split
  · refine sweepRewalk_holds ?_ ?_ fun _ => endRead_owed st r <;> rw [endRead_col]
    · exact ctl
    · exact ready
  · rename_i waits
    have waiting : (s.col n).ctl.rewalkWaiting = false := by simpa using waits
    have ended : Rolls { s.col n with slot := .free } none :=
      { rolls with
        owing := iff_of_false nofun (by simp)
        rewalk := fun waits => absurd waits (by simp [waiting]) }
    exact .of_col (ended.column ctl ready) (endRead_col st r) (endRead_owed st r)

theorem State.holds.transferResult (h : s.holds n) (p : TransactionReport) : (transferResult n p s).holds n := by
  unfold Machine.transferResult
  split
  · exact h
  · rename_i r busy
    have ready : (s.col n).ctl.state = .ready := h.reading (by rw [busy]; nofun)
    have rolls := ColumnInv.rolls h ready
    have grown (x : Read) : Rolls { s.col n with slot := .busy x } (s.port.owed.get n) :=
      { rolls with
        owing := by rw [rolls.owing, busy]; simp
        rewalk := fun _ => nofun }
    split
    · unfold chunkDone
      simp only
      split
      · refine finishRead_holds ?_ ?_ ?_ _ _ <;> rw [State.setSlot_col]
        · exact h.ctl
        · exact ready
        · exact grown _
      · have joined (x : Read) : (s.setSlot n (.busy x)).holds n :=
          .of_col ((grown x).column h.ctl ready) (State.setSlot_col s n _) rfl
        exact (joined _).placeRequest (.inr (by rw [State.setSlot_col]; exact ready)) _ _
    · exact finishRead_holds h.ctl ready rolls _ _
    · exact finishRead_holds h.ctl ready rolls _ _

/-! ## A walk's result -/

theorem WalkMoves.holds {t : State} (moves : WalkMoves n s t) (h : s.holds n) (runs : (s.col n).walk.phase ≠ .idle) :
    t.holds n := by
  have state := h.walking.mp runs
  have walks := ColumnInv.walks h state
  obtain ⟨⟨w, r, col, phase⟩, _, owed⟩ := moves.frame
  have walks' : Walks { s.col n with walk := w, arbiter := { (s.col n).arbiter with procedure := r } } (s.port.owed.get n) :=
    { walks with walk := phase runs }
  exact .of_col (walks'.column h.ctl state) col (by rw [owed])

/-- R108: the walk's end, in READY with roll call started. -/
theorem State.holds.endWalk (h : s.holds n) (state : (s.col n).ctl.state = .walking) : (endWalk n s).holds n := by
  obtain ⟨powered, booting, held, policing⟩ := h.ctl.policed (.inl state)
  have walks := ColumnInv.walks h state
  have rolls : Rolls
      { s.col n with
        ctl := { (s.col n).ctl with state := .ready }
        walk := { (s.col n).walk.emptied with
          phase := .idle, record := (s.col n).walk.record.ended (s.table.awayOf n).length }
        roll := { (s.col n).roll with
          phase := .waiting, deferred := false, position := none, period := .running s.settings.rollCallPeriod } } none :=
    { walk := rfl, empty := ⟨rfl, rfl, rfl⟩, roll := nofun, period := iff_of_true rfl (.inl rfl)
      owing := iff_of_false nofun (fun busy => busy walks.slot)
      waiting := iff_of_false (by simp [walks.waiting]) nofun
      rewalk := fun waits => absurd waits (by simp [walks.waiting]) }
  refine .of_col (rolls.column (powered.readies booting held policing) rfl) ?_ ?_
  · simp [Machine.endWalk, enterReady, startRoll, raiseRoster_eq]
  · simpa [Machine.endWalk, enterReady, startRoll] using walks.owed

theorem State.holds.walkResult (h : s.holds n) (runs : (s.col n).walk.phase ≠ .idle) (x : Transaction)
    (p : TransactionReport) : (walkResult n x p s).holds n := by
  obtain moves | ⟨u, moves, eq⟩ := walkResult_turns (n := n) (.refl (s := s)) x p
  · exact moves.holds h runs
  · obtain ⟨⟨w, r, col, _⟩, _⟩ := moves.frame
    rw [eq]
    refine (moves.holds h runs).endWalk ?_
    rw [col]
    exact h.walking.mp runs

/-! ## The ends of attempts -/

theorem State.holds.endTransaction (h : s.holds n) (x : Transaction) (p : TransactionReport) :
    (endTransaction n x p s).holds n := by
  have rested : (s.modEngine n Engine.rest).holds n := h.modEngine (f := Engine.rest) nofun
  refine State.holds.lineGrant ?_
  unfold handResult
  split
  · exact rested.transferResult p
  · split
    · exact rested.rollResult p
    · exact rested.walkResult ‹_› x p

theorem State.holds.retryOrEnd (h : s.holds n) (working : s.working n) (x : Transaction) (r : AttemptResult) :
    (retryOrEnd n x r s).holds n := by
  unfold Machine.retryOrEnd
  split
  · exact (h.engine working _).engine (working_modEngine working _) _
  · exact h.endTransaction _ _

theorem State.holds.failAttempt (h : s.holds n) (x : Transaction) (r : AttemptResult) : (failAttempt n x r s).holds n := by
  have failed : (s.modEngine n fun e => { e with lastFailed := some (r.outcome, r.failedByte) }).holds n := h.modEngine id
  exact failed.countLineError _

theorem State.holds.stopAttempt (h : s.holds n) (working : s.working n) (x : Transaction) (r : AttemptResult) :
    (stopAttempt n x r s).holds n := by
  unfold Machine.stopAttempt
  split
  · exact h.endTransaction _ _
  · split
    · exact h.endTransaction _ _
    · exact (h.failAttempt _ _).retryOrEnd (working_countLineError (working_modEngine working _) _) _ _

theorem State.holds.handAttempt (h : s.holds n) (r : AttemptResult) (stages : List WireStage) :
    (handAttempt n r stages s).holds n := h.modEngine (f := fun e => { e with handed := some r, driven := stages }) id

theorem State.holds.breakAttempt (h : s.holds n) (x : Transaction) (r : AttemptResult) (stages : List WireStage) :
    (breakAttempt n x r stages s).holds n := by
  exact ((h.handAttempt r stages).failAttempt x r).modEngine (f := Engine.beginClosing) id

theorem State.holds.endClosing (h : s.holds n) : (endClosing n s).holds n := by
  unfold Machine.endClosing
  split
  · exact (h.modEngine (f := Engine.rest) nofun).lineGrant
  · rename_i x flight
    exact h.retryOrEnd (h.lining (.inl (by rw [flight]; rfl))) _ _

theorem State.holds.stuckLine (h : s.holds n) : (stuckLine n s).holds n := by
  have rested : (s.modEngine n Engine.rest).holds n := h.modEngine (f := Engine.rest) nofun
  have same : (s.modEngine n Engine.rest).laneState n = s.laneState n := by simp [State.laneState]
  unfold Machine.stuckLine
  simp only
  split
  · rename_i state
    exact rested.faulted (by rw [same, state]; rfl) (code := .lineStuck) nofun _ _
  · rename_i state
    exact rested.faulted (by rw [same, state]; rfl) (code := .lineStuck) nofun _ _
  all_goals exact rested.lineGrant

theorem attempted_working (h : s.holds n) {x : Transaction} (attempted : (s.col n).engine.attempted = some x) :
    s.working n := by
  unfold Engine.attempted at attempted
  split at attempted
  · exact h.lining (.inl (by rw [attempted]; rfl))
  · cases attempted

theorem State.holds.guarded {t : State} (h : s.holds n) {p : Prop} [Decidable p] (ht : p → t.holds n) :
    (if p then t else s).holds n := by
  split
  · exact ht ‹_›
  · exact h

end

/-! ## Events -/

theorem holds_event {c : Instr} {n : Lane} {s t : State} (lane : eventLane s c = some n) (e : exec c s = .next t)
    (supply : SupplyInv s) (h : s.holds n) : t.holds n := by
  cases c
  case pointJobCompletion =>
    cases e
    split
    · rename_i m _ _ job
      simp only [eventLane, job, Option.map_some, Option.some.injEq] at lane
      subst lane
      exact h.pointHandled _ _ _
    · exact h
    · exact h
  case sampleJobCompletion =>
    cases e
    split
    · rename_i m live job
      simp only [eventLane, job, Option.map_some, Option.some.injEq] at lane
      subst lane
      refine h.guarded fun asked => ?_
      exact h.sampleResult supply ((supply m).sampled (by rw [job, asked])) _ _
    · exact h
    · exact h
  case stall =>
    cases e; cases lane
    split
    · split
      · exact h.breakAttempt _ _ _
      · exact h
    · exact h
  case collision =>
    cases e; cases lane
    split
    · split
      · exact h.breakAttempt _ _ _
      · exact h
    · exact h
  case attemptEnd =>
    cases e; cases lane
    split
    · rename_i x attempted
      exact (h.handAttempt _ _).stopAttempt (working_modEngine (attempted_working h attempted) _) _ _
    · exact h
  case mateEvent => cases e; cases lane; exact h.guarded fun _ => (h.setReading _).mateAction
  case openEvent => cases e; cases lane; exact h.guarded fun _ => (h.setReading _).openAction
  case tripEvent => cases e; cases lane; exact h.tripCheck supply _
  case settleTimerExpiry => cases e; cases lane; exact h.guarded h.settleExpired
  case grantWindowExpiry => cases e; cases lane; exact h.guarded fun _ => h.windowExpired
  case inrushWindowExpiry =>
    cases e; cases lane
    exact h.guarded fun runs =>
      (h.inrushExpired ((supply.at n).inrush.mp runs)).tripCheck (supply.inrushExpired runs) _
  case sampleDueInstant => cases e; cases lane; exact h.guarded fun _ => h.sampleDue
  case bootWaitExpiry => cases e; cases lane; exact h.guarded fun runs => (h.bootExpired runs).lineGrant
  case remateHoldExpiry => cases e; cases lane; exact h.guarded fun _ => h.holdExpired
  case idleCheckPassed => cases e; cases lane; exact h.guarded fun _ => h.modEngine id
  case lineStuck => cases e; cases lane; exact h.guarded fun _ => h.stuckLine
  case closingStop => cases e; cases lane; exact h.guarded fun _ => (h.modEngine id).endClosing
  case closingGivenUp => cases e; cases lane; exact h.guarded fun _ => (h.modEngine id).endClosing
  case rollCallPeriodExpiry => cases e; cases lane; exact h.guarded fun _ => h.periodExpiry.lineGrant
  all_goals cases lane

end Sys2Proof.Machine
end

section
/-!
Requests and resets leave every lane as its state allows; the statement on the supply rules and the lane states (O6), and the
one on the state after reset (O9).
-/

namespace Sys2Proof.Machine

/-! ## Requests -/

section

variable {n : Lane} {s : State}

theorem leavePowered_owed :
    (leavePowered n s).port.owed.get n = if (s.col n).slot = .free then s.port.owed.get n else none := by
  rw [leavePowered_eq]
  by_cases slot : (s.col n).slot = .free <;> simp [slot]

/-- R18: the lane controller of a lane that is disabled, its timers stopped. -/
def LaneCtl.disabled (c : LaneCtl) : LaneCtl :=
  { c with
    settle := .stopped, grantWindow := .stopped, hold := .stopped, grantPending := none, rewalkWaiting := false }

/-- R18: a lane out of power, its timers stopped and its jobs withdrawn, enters OFF. -/
theorem LaneQuiet.disables (h : LaneQuiet s n) (settle : (s.col n).ctl.settle = .stopped)
    (hold : (s.col n).ctl.hold = .stopped) :
    (transition n .off .disabled none ((removeLane n s).modCtl n fun c => { c with fault := .none })).holds n := by
  refine AtRest.moved ?_ _ _ ?_ nofun nofun
  · simpa [removeLane] using { h.rest with }
  · simpa [removeLane] using
      Quiet.offs (c := { (s.col n).ctl with fault := .none }) { h.ctl with } (by rw [settle]; rfl) (by rw [hold]; rfl)

theorem State.holds.disableLane (h : s.holds n) : (disableLane n s).holds n := by
  let u := Machine.withdrawJobs n (s.modCtl n LaneCtl.disabled)
  have hu : u = Machine.withdrawJobs n (s.modCtl n LaneCtl.disabled) := rfl
  change (transition n .off .disabled none ((removeLane n
    (if (s.laneState n).powered then Machine.leavePowered n u else u)).modCtl n fun c => { c with fault := .none })).holds n
  have col : u.col n = { s.col n with ctl := (s.col n).ctl.disabled } := by simp [hu, Machine.withdrawJobs]
  have owed : u.port.owed = s.port.owed := rfl
  have left : LaneQuiet (if (s.laneState n).powered then Machine.leavePowered n u else u) n ∧
      ((if (s.laneState n).powered then Machine.leavePowered n u else u).col n).ctl.settle = .stopped ∧
      ((if (s.laneState n).powered then Machine.leavePowered n u else u).col n).ctl.hold = .stopped := by
    split
    · have unpowered : (Machine.leavePowered n u).col n = Column.unpowered { s.col n with ctl := (s.col n).ctl.disabled } := by
        rw [leavePowered_col, col]
      rw [unpowered]
      refine ⟨⟨?_, ?_⟩, rfl, rfl⟩ <;> rw [unpowered]
      · exact { granting := rfl, pending := rfl, booting := rfl, opened := rfl }
      · refine
          { walk := ?_, empty := ?_, roll := rfl, period := rfl, slot := rfl, owed := ?_, waiting := rfl
            line := ⟨?_, rfl, rfl⟩ }
        · simp only [Column.unpowered]
          split
          · assumption
          · rfl
        · simp only [Column.unpowered]
          split
          · rename_i idle
            exact h.walkEmpty idle
          · exact ⟨rfl, rfl, rfl⟩
        · rw [leavePowered_owed, col, owed]
          split
          · exact h.unowed ‹_›
          · rfl
        · simp only [Column.unpowered]
          split <;> rfl
    · rename_i off
      have off : (s.laneState n).powered = false := by simpa using off
      refine ⟨⟨?_, ?_⟩, by rw [col]; rfl, by rw [col]; rfl⟩ <;> rw [col]
      · exact
          { granting := rfl, pending := rfl, booting := h.ctl.unbooting (powering_powered off), opened := h.ctl.opened off }
      · exact { h.off_rest off with waiting := rfl }
  exact left.1.disables left.2.1 left.2.2

theorem State.holds.enableLane (h : s.holds n) (off : s.laneState n = .off) : (enableLane n s).holds n := by
  have quiet := h.quiet (by rw [off]; rfl) (by rw [off]; nofun) (by rw [off]; nofun)
  have apart : ∀ x : LaneState, x ≠ .off → (s.col n).ctl.state ≠ x := fun x other same => other (same.symm.trans off)
  have enabled := quiet.empties (h.ctl.unsettled (apart _ nofun) (apart _ nofun)) .enabled
  have state : (Machine.transition n .empty .enabled none s).laneState n = .empty := by simp [State.laneState]
  unfold Machine.enableLane
  simp only
  split
  · exact (enabled.quiet (by rw [state]; rfl) (by rw [state]; nofun) (by rw [state]; nofun)).settles _
  · exact enabled

/-- R5, R7: GRANT, in AWAIT_GRANT. -/
theorem State.holds.grantLane (h : s.holds n) (awaiting : s.laneState n = .awaitGrant) : (grantLane n s).holds n := by
  have state : (s.col n).ctl.state = .awaitGrant := awaiting
  have off : (s.laneState n).powered = false := by rw [awaiting]; rfl
  have apart : ∀ x : LaneState, x ≠ .awaitGrant → (s.col n).ctl.state ≠ x :=
    fun x other same => other (same.symm.trans state)
  have rest := h.off_rest off
  have stopped := h.ctl.unsettled (apart _ nofun) (apart _ nofun)
  have booting := h.ctl.unbooting (apart _ nofun)
  obtain ⟨valid, cls⟩ := h.signed (.inl state)
  unfold Machine.grantLane
  split
  · have quiet : LaneQuiet (s.modCtl n fun c => { c with grantWindow := .stopped }) n := by
      constructor <;> rw [State.modCtl_col]
      · exact { granting := rfl, pending := h.ctl.unpending (apart _ nofun), booting, opened := h.ctl.opened off }
      · exact { rest with }
    refine quiet.powers ?_ ?_ ?_ _ _ <;> rw [State.modCtl_col]
    · exact stopped
    · exact valid
    · exact cls
  · rename_i stale
    have granting : (s.col n).ctl.grantWindow.isRunning = false := by
      rw [Bool.eq_false_iff]
      intro runs
      have fresh := (h.fresh state).mp runs
      rw [stale] at fresh
      cases fresh
    refine AtRest.measures ?_ ?_ ?_ ?_ ?_ _ <;> rw [State.modCtl_col]
    · exact { rest with }
    · exact granting
    · exact booting
    · exact h.ctl.opened off
    · exact stopped

theorem State.holds.rewalkLane (h : s.holds n) (ready : s.laneState n = .ready) : (rewalkLane n s).holds n :=
  (rewalk_holds h.ctl ready h.unowed (used := fun r => { r with used := 0 }) (fun _ => ⟨rfl, rfl⟩) _).lineGrant

theorem State.holds.clearLane (h : s.holds n) (faulted : s.laneState n = .fault) : (clearLane n s).holds n := by
  have quiet := h.quiet (by rw [faulted]; rfl) (by rw [faulted]; nofun) (by rw [faulted]; nofun)
  exact (quiet.modCtl quiet.ctl.granting quiet.ctl.pending quiet.ctl.booting quiet.rest.waiting).settles _

/-- R88, R177: a read that passes. -/
theorem State.holds.startRead (h : s.holds n) (ready : s.laneState n = .ready) (tag : Byte) (r : Read) :
    (startRead tag n r s).holds n := by
  have rolls := ColumnInv.rolls h ready
  have busy : Rolls { s.col n with slot := .busy r } (some tag) :=
    { rolls with owing := iff_of_true rfl nofun, rewalk := fun _ => nofun }
  have owes : (oweRead n tag r s).holds n := by
    refine .of_col (busy.column h.ctl ready) (State.setSlot_col _ _ _) ?_
    simp [oweRead]
  have state : ((oweRead n tag r s).col n).ctl.state = .ready := by
    simpa [oweRead] using (show (s.col n).ctl.state = .ready from ready)
  exact (owes.placeRequest (.inr state) _ _).lineGrant

theorem State.holds.settleIfMated (h : s.holds n) : (settleIfMated s n).holds n := by
  unfold Machine.settleIfMated
  refine h.guarded fun ⟨empty, _⟩ => ?_
  exact (h.quiet (by rw [empty]; rfl) (by rw [empty]; nofun) (by rw [empty]; nofun)).settles _

end

/-! ## Every lane -/

section

variable {s : State} (h : LanesInv s)
include h

/-- What changes neither a column nor what is owed. -/
theorem LanesInv.aside {t : State} (columns : t.columns = s.columns) (owed : t.port.owed = s.port.owed) : LanesInv t := by
  intro m
  rw [State.col, columns, owed]
  exact h m

theorem LanesInv.answer (tag code : Byte) (st : Status) (payload : List Byte) : LanesInv (answer tag code st payload s) :=
  h.aside rfl rfl

theorem LanesInv.passDue : LanesInv (passDue s) := h.aside (by simp) (by simp)

theorem LanesInv.applyPairs (ps : List SettingPair) : LanesInv (ps.foldl applyPair s) := by
  induction ps generalizing s with
  | nil => exact h
  | cons p ps ih =>
    refine ih ?_
    unfold applyPair
    split
    · exact h
    · rename_i x _
      have effected : LanesInv (settingEffect x (x.taken p.value.toNat) s) := by
        unfold settingEffect
        split
        · split
          · split
            · exact h
            · exact h.lane (disableLane_moves .refl) (State.holds.disableLane (h _))
          · split
            · exact h.lane (enableLane_moves .refl) (State.holds.enableLane (h _) ‹_›)
            · exact h
        · split
          · exact h.aside rfl rfl
          · exact h
        all_goals exact h
      exact effected.aside rfl rfl

theorem LanesInv.laneControl (tag lane : Byte) {taken : LaneState} {act : Lane → State → State}
    (moves : ∀ n, LaneMoves n s (act n s)) (own : ∀ n, s.laneState n = taken → (act n s).holds n) :
    LanesInv (laneControl tag lane taken act s) := by
  unfold Machine.laneControl
  split
  · exact h.answer _ _ _ _
  · split
    · exact (h.lane (moves _) (own _ ‹_›)).answer _ _ _ _
    · exact h.answer _ _ _ _

theorem LanesInv.applyCatalogue (tag code : Byte) (a : CatalogueAnswer) : LanesInv (applyCatalogue tag code a s) := by
  unfold Machine.applyCatalogue
  split
  · exact h.answer _ _ _ _
  · rename_i c _
    have changed : LanesInv { s with catalogue := c } := h.aside rfl rfl
    exact changed.passDue.answer _ _ _ _

theorem LanesInv.settleIfMated (n : Lane) : LanesInv (settleIfMated s n) :=
  h.lane (settleIfMated_moves .refl) (State.holds.settleIfMated (h n))

theorem LanesInv.comeUp (cause : ResetCause) : LanesInv (comeUp cause s) := by
  have raised : LanesInv (raise (.restarted cause) s) := h.aside rfl rfl
  unfold Machine.comeUp
  simp only [Lane.all, List.foldl_cons, List.foldl_nil]
  exact (((raised.settleIfMated _).settleIfMated _).settleIfMated _).settleIfMated _

theorem LanesInv.startRead {n : Lane} (ready : s.laneState n = .ready) (tag : Byte) (r : Read) :
    LanesInv (startRead tag n r s) := by
  have own := State.holds.startRead (h n) ready tag r
  intro m
  by_cases same : m = n
  · exact same ▸ own
  · have moves : LaneMoves n (oweRead n tag r s) (Machine.startRead tag n r s) := lineGrant_moves (placeChunk_moves .refl _)
    rw [moves.frame.others m same, moves.frame.owed m same]
    have col : (oweRead n tag r s).col m = s.col m := PerLane.get_set_ne _ _ same
    have owed : (oweRead n tag r s).port.owed.get m = s.port.owed.get m := PerLane.get_set_ne _ _ same
    rw [col, owed]
    exact h m

theorem LanesInv.deviceRead (tag lane handle offset count : Byte) :
    LanesInv (takeDeviceRead tag lane handle offset count s) := by
  unfold takeDeviceRead
  split
  · rename_i n _ _ _
    split
    · exact h.answer _ _ _ _
    · rename_i passes
      unfold State.readRefusal at passes
      split at passes
      · cases passes
      · rename_i state
        simp only [ne_eq, not_or, Classical.not_not, Bool.not_eq_true] at state
        exact h.startRead state.1 _ _
  · exact h.answer _ _ _ _

theorem LanesInv.deviceClear (tag lane handle : Byte) : LanesInv (takeDeviceClear tag lane handle s) := by
  unfold takeDeviceClear
  split
  · split
    · exact h.answer _ _ _ _
    · exact h.aside (by simp [Machine.answer, placeReply]) (by simp [Machine.answer, placeReply])
  · exact h.answer _ _ _ _

end

/-! ## Resets -/

/-- R21, R22: a controller as a reset leaves it, whatever its comparator reads, with its lane's other blocks at reset. -/
theorem reset_column (reading : Reading) :
    ColumnInv { Column.reset with ctl := { LaneCtl.reset with reading } } none := by
  have rest : AtRest { Column.reset with ctl := { LaneCtl.reset with reading } } none := by
    constructor <;> first | rfl | exact ⟨rfl, rfl, rfl⟩
  refine rest.column ?_ nofun nofun
  exact Quiet.empties (c := { LaneCtl.reset with reading }) ⟨rfl, rfl, rfl, rfl⟩ rfl

/-- R22: a lane in OFF keeps its controller. -/
theorem restarted_column {c : Column} {owed : Option Byte} (h : ColumnInv c owed) : ColumnInv c.restarted none := by
  unfold Column.restarted LaneCtl.restarted
  split
  · rename_i off
    have quiet := h.ctl.quiet (by rw [off]; rfl) (by rw [off]; nofun) (by rw [off]; nofun)
    have rest := h.rest (by rw [off]; nofun) (by rw [off]; nofun)
    have held : c.ctl.hold.isRunning = false := by
      rw [Bool.eq_false_iff]
      exact fun runs => (h.held runs).1 off
    have ctl := Quiet.offs (c := c.ctl) (v := Supervisor.reset) { quiet with opened := rfl }
      (h.ctl.unsettled (by rw [off]; nofun) (by rw [off]; nofun)) held
    rw [← off] at ctl
    refine AtRest.column ?_ ctl (by rw [off]; nofun) (by rw [off]; nofun)
    exact
      { walk := rfl, empty := ⟨rfl, rfl, rfl⟩, roll := rfl, period := rfl, slot := rfl, owed := rfl
        waiting := rest.waiting, line := ⟨rfl, rfl, rfl⟩ }
  all_goals exact reset_column _

theorem restarted_lanesInv {s : State} (h : LanesInv s) : LanesInv s.restarted := by
  intro n
  have owed : s.restarted.port.owed.get n = none := PerLane.get_fill _ _
  have col : s.restarted.col n = (s.col n).restarted := PerLane.get_map _ _ _
  rw [owed, col]
  exact restarted_column (h n)

theorem cold_lanesInv (s : State) (contacts : PerLane Contact) {p : Port} (owed : p.owed = PerLane.fill none) :
    LanesInv (s.cold contacts p) := by
  intro n
  have none : (s.cold contacts p).port.owed.get n = none := by
    show p.owed.get n = Option.none
    rw [owed, PerLane.get_fill]
  have col : (s.cold contacts p).col n = Column.afterReset (contacts.get n) := PerLane.get_map _ _ _
  rw [none, col]
  exact reset_column _

theorem RequestHandler.lanesInv {f : State → State} (handles : RequestHandler f) {s : State} (h : LanesInv s) :
    LanesInv (f s) := by
  cases handles
  case malformed => exact h.answer _ _ _ _
  case noAction => exact h.answer _ _ _ _
  case status => exact h.answer _ _ _ _
  case configure tag pairs =>
    unfold takeConfigure
    split
    · exact h.answer _ _ _ _
    · exact (h.applyPairs pairs).answer _ _ _ _
  case grant => exact h.laneControl _ _ (fun _ => grantLane_moves .refl) fun n => State.holds.grantLane (h n)
  case rewalk => exact h.laneControl _ _ (fun _ => rewalkLane_moves .refl) fun n => State.holds.rewalkLane (h n)
  case clear => exact h.laneControl _ _ (fun _ => clearLane_moves .refl) fun n => State.holds.clearLane (h n)
  case laneRead =>
    unfold takeLaneRead
    split <;> exact h.answer _ _ _ _
  case roster =>
    unfold takeRoster
    split <;> exact h.answer _ _ _ _
  case deviceRead => exact h.deviceRead _ _ _ _ _
  case deviceClear => exact h.deviceClear _ _ _
  case catTool => exact h.applyCatalogue _ _ _
  case catSlot =>
    unfold takeCatSlot
    split
    · exact h.applyCatalogue _ _ _
    · exact h.answer _ _ _ _
  case catDrop => exact h.applyCatalogue _ _ _
  case catRead => exact h.answer _ _ _ _
  case nameNow => exact h.passDue.answer _ _ _ _
  case matchRead => exact h.answer _ _ _ _
  case restart => exact ((restarted_lanesInv h).comeUp _).answer _ _ _ _

/-! ## Every command -/

/-- The supply rules with what each lane state allows. -/
def SupplyAndLanes (s : State) : Prop := SupplyInv s ∧ LanesInv s

theorem requestsKeep_lanes : RequestsKeep SupplyAndLanes where
  full _ _ h := ⟨h.1.modPort _, h.2.aside rfl rfl⟩
  request _ handles _ _ h := ⟨handles.supplyInv h.1, handles.lanesInv h.2⟩

theorem fall_owed (p : Port) : p.fall.owed = p.owed := by
  unfold Port.fall Port.fillBuffer
  split
  · split
    · rfl
    · split <;> rfl
  · rfl
  · rfl

theorem endWindow_owed (p : Port) (out : List Byte) (carried : LinkFlags) (k : Nat) :
    (p.endWindow out carried k).owed = p.owed := by
  unfold Port.endWindow
  split
  · unfold Port.deliver
    split <;> rfl
  · rfl

theorem commandsKeep_lanes : CommandsKeep SupplyAndLanes where
  toRequestsKeep := requestsKeep_lanes
  event lane e h := ⟨supplyInv_event lane e h.1, h.2.lane (event_moves lane e) (holds_event lane e h.1 (h.2 _))⟩
  fall _ h := ⟨h.1.modPort _, h.2.aside rfl (fall_owed _)⟩
  rise := requestsKeep_lanes.rise (fun _ h => ⟨h.1.modPort _, h.2.aside rfl rfl⟩)
    (fun _ _ _ _ h => ⟨h.1.modPort _, h.2.aside rfl (endWindow_owed _ _ _ _)⟩)
    fun _ h => ⟨h.1.modPort _, h.2.aside rfl rfl⟩
  powerOn contacts _ s _ := ⟨(cold_supplyInv s contacts _).comeUp _, (cold_lanesInv s contacts rfl).comeUp _⟩
  hold s h := by
    unfold holdReset
    split
    · exact h
    · exact ⟨cold_supplyInv s _ _, cold_lanesInv s _ rfl⟩
  release contacts s h := by
    unfold releaseReset
    split
    · exact ⟨(cold_supplyInv s contacts _).comeUp _, (cold_lanesInv s contacts rfl).comeUp _⟩
    · exact h

/-- Settles O6. -/
theorem supplyAndLanesInvKept : Obligations.SupplyAndLanesInvKept := by
  intro s t supply e
  refine ⟨commandsKeep_supply.step (fun _ _ h => h.aside rfl rfl) supply e, fun lanes => ?_⟩
  exact (commandsKeep_lanes.step (fun _ _ h => ⟨h.1.aside rfl rfl, h.2.aside rfl rfl⟩) ⟨supply, lanes⟩ e).2

/-! ## The state after reset -/

theorem reset_portInv : PortInv State.reset where
  bounded := by decide
  distinct := by decide
  buffered := trivial

theorem reset_supplyInv : SupplyInv State.reset :=
  supplyInv_of_reset (fun n => by simp [State.reset, State.col]; rfl) fun _ => reset_samples

theorem reset_tableInv : TableInv State.reset :=
  tableInv_of_empty rfl fun n => by simp [State.bindings, State.col, State.reset]; rfl

theorem reset_lanesInv : LanesInv State.reset := by
  intro n
  have owed : State.reset.port.owed.get n = none := PerLane.get_fill _ _
  have col : State.reset.col n = Column.reset := PerLane.get_fill _ _
  rw [owed, col]
  exact reset_column .opened

/-- Settles O9. -/
theorem resetMeetsInvariants : Obligations.ResetMeetsInvariants :=
  ⟨reset_portInv, reset_supplyInv, defaults_settingsInv, defaults_catalogueInv, reset_tableInv, reset_lanesInv,
    heldInv_of_high rfl⟩

end Sys2Proof.Machine
end

section
/-!
The stages through which an attempt takes the wires stay on record through all that its result leads to (R54, R56 to
R60, R77).
-/

namespace Sys2Proof.Machine

/-! ## The stages on record -/

/-- The stages through which the last attempt or closing of a lane took the wires. -/
def State.driven (s : State) (n : Lane) : List WireStage := (s.col n).engine.driven

section

variable (n : Lane) (s : State)

theorem modEngine_driven {f : Engine → Engine} (keeps : ∀ e, (f e).driven = e.driven) :
    (s.modEngine n f).driven n = s.driven n := by
  rw [State.driven, State.modEngine_col]
  exact keeps _

theorem lineGrant_driven : (lineGrant n s).driven n = s.driven n := by
  rw [State.driven, lineGrant_eq, withColumn_col]
  unfold Column.lineGranted
  split
  · split <;> rfl
  · rfl

theorem enterWalking_driven (why : Reason) : (enterWalking n why s).driven n = s.driven n := by
  simp [State.driven, enterWalking, startWalk, placeRequest]

theorem sweepRewalk_driven : (sweepRewalk n s).driven n = s.driven n := by
  unfold sweepRewalk
  rw [enterWalking_driven, State.driven, leaveReady_col, abort_eq]
  simp only [State.driven]
  split <;> rfl

theorem RollFrame.driven {n : Lane} {s t : State} (h : RollFrame n s t) : t.driven n = s.driven n := by
  obtain ⟨⟨r, a, col, _⟩, _⟩ := h
  rw [State.driven, col]
  rfl

theorem WalkMoves.driven {n : Lane} {s t : State} (h : WalkMoves n s t) : t.driven n = s.driven n := by
  obtain ⟨⟨w, r, col, _⟩, _⟩ := h.frame
  rw [State.driven, col]
  rfl

theorem endWalk_driven : (endWalk n s).driven n = s.driven n := by
  simp [State.driven, endWalk, enterReady, startRoll]

theorem walkResult_driven (x : Transaction) (p : TransactionReport) : (walkResult n x p s).driven n = s.driven n := by
  obtain moves | ⟨u, moves, eq⟩ := walkResult_turns (n := n) (.refl (s := s)) x p
  · exact moves.driven
  · rw [eq, endWalk_driven, moves.driven]

theorem rollResult_driven (p : TransactionReport) : (rollResult n p s).driven n = s.driven n := by
  unfold rollResult
  split
  · unfold sweepResult
    split
    · unfold takeSweepAnswer
      split
      · rw [sweepRewalk_driven, State.driven, State.modRoll_col]
        rfl
      · simp [State.driven]
    · exact (RollFrame.roll (f := fun r => { r with phase := .probing, position := none }) rfl probeNext_rolls).driven
  · unfold probeResult
    split
    · rename_i j _
      rw [probeNext_rolls.driven, State.driven, State.col, writeProbe_columns]
      rfl
    · exact probeNext_rolls.driven
  all_goals rfl

theorem finishRead_driven (st : Status) (r : Read) : (finishRead n st r s).driven n = s.driven n := by
  have ended : (endRead n st r s).driven n = s.driven n := by
    rw [State.driven, endRead_col]
    rfl
  unfold finishRead
  simp only
  split
  · rw [sweepRewalk_driven, ended]
  · exact ended

theorem transferResult_driven (p : TransactionReport) : (transferResult n p s).driven n = s.driven n := by
  have stored (x : TransferSlot) : (s.setSlot n x).driven n = s.driven n := by
    rw [State.driven, State.setSlot_col]
    rfl
  unfold transferResult
  split
  · rfl
  · split
    · unfold chunkDone
      simp only
      split
      · rw [finishRead_driven, stored]
      · simp [placeChunk, placeRequest, State.driven]
    · exact finishRead_driven _ _ _ _
    · exact finishRead_driven _ _ _ _

theorem endTransaction_driven (x : Transaction) (p : TransactionReport) :
    (endTransaction n x p s).driven n = s.driven n := by
  have rested := modEngine_driven n s (f := Engine.rest) fun _ => rfl
  unfold endTransaction handResult
  rw [lineGrant_driven]
  split
  · rw [transferResult_driven, rested]
  · split
    · rw [rollResult_driven, rested]
    · rw [walkResult_driven, rested]

theorem retryOrEnd_driven (x : Transaction) (r : AttemptResult) : (retryOrEnd n x r s).driven n = s.driven n := by
  unfold retryOrEnd
  split
  · refine (modEngine_driven _ _ ?_).trans (modEngine_driven _ _ ?_)
    · exact fun _ => rfl
    · exact fun _ => rfl
  · exact endTransaction_driven _ _ _ _

theorem failAttempt_driven (x : Transaction) (r : AttemptResult) : (failAttempt n x r s).driven n = s.driven n := by
  unfold failAttempt
  rw [State.driven, State.col, countLineError_columns]
  exact modEngine_driven n s fun _ => rfl

/-- What an attempt's result leads to leaves on record how the attempt took the wires. -/
theorem stopAttempt_driven (x : Transaction) (r : AttemptResult) : (stopAttempt n x r s).driven n = s.driven n := by
  unfold stopAttempt
  split
  · exact endTransaction_driven _ _ _ _
  · split
    · exact endTransaction_driven _ _ _ _
    · rw [retryOrEnd_driven, failAttempt_driven]

end

/-! ## The statement -/

/-- Settles O27, by the bytes that ran before the stop slot: all of the call's, or those up to a missing acknowledge. -/
theorem attemptDrivesItsSlots : Obligations.AttemptDrivesItsSlots := by
  intro n t m acks bytes s attempting flight r heard k sent phase lda drives
  have taken := execAttemptEnd_taken attempting flight (acks := acks) (bytes := bytes) rfl
  refine ⟨_, taken, ?_⟩
  have driven := stopAttempt_driven n (s.handed n (r.result acks bytes) (r.run acks bytes).stages) t (r.result acks bytes)
  have bytesOf : k = r.bytes := rfl
  have phases (i : Nat) : r.bytePhase i = phase i := by
    simp only [phase, LineRequest.bytePhase, LineRequest.inPhase]
    cases r.call <;> simp
  have holds : ∀ whole ≤ r.bytes, (r.run acks bytes).ran = r.body.take (1 + 9 * whole) ++ [stopSlot] →
      drives whole (stopAttempt n t (r.result acks bytes) (s.handed n (r.result acks bytes) (r.run acks bytes).stages)) := by
    intro whole most ran
    have stages : ((stopAttempt n t (r.result acks bytes)
        (s.handed n (r.result acks bytes) (r.run acks bytes).stages)).col n).engine.driven =
        (r.body.take (1 + 9 * whole) ++ [stopSlot]).flatMap LineSlot.stages := by
      refine driven.trans ?_
      simp [State.driven, State.handed, SlotRun.stages, ran]
    obtain ⟨start, bits, stop⟩ := stages_place r most
    simp only [drives, stages]
    refine ⟨start, fun i hi j hj => ?_, stop⟩
    have place := bits i hi j hj
    rw [byteUse_lda r (by omega) hj, phases] at place
    exact place
  constructor
  · intro acked
    refine holds k (Nat.le_of_eq bytesOf) ?_
    have long : 1 + 9 * k = r.body.length := (length_body r).symm
    rw [run_acked r acks bytes (given_of_getElem? acked), long, List.take_length]
    rfl
  · intro own given missing
    refine holds (m + 1) ?_ ?_
    · unfold LineRequest.bytes
      omega
    · rw [run_nak r m acks bytes own (given_of_getElem? given) (missing_of_getElem? missing)]

end Sys2Proof.Machine
end

section
/-!
The host link port: what a window clocks, its delivery, the decoding of the host's frames, and the pins (R169 to R174).
-/

namespace Sys2Proof.Machine

/-! ## Chip-select fall (R169, R170, R173) -/

theorem fall_ignored {p : Port} (closed : p.window = .closed) (low : p.resetLow = true) :
    p.fall = { p with window := .ignored } := by
  simp only [Port.fall, closed, low, if_true]

theorem fall_clocks {p : Port} (closed : p.window = .closed) (high : p.resetLow = false) :
    p.fall = { p.fillBuffer with window := .clocking p.fillBuffer.frame p.flags } := by
  simp only [Port.fall, closed, high, Bool.false_eq_true, if_false]

/-- Settles O45: the buffer's frame, else what fills the buffer, else EMPTY. -/
theorem chipSelectFallFillsBuffer : Obligations.ChipSelectFallFillsBuffer := by
  unfold Obligations.ChipSelectFallFillsBuffer
  intro s closed opened next
  have moved : next = .next { s with port := s.port.fall } := rfl
  rw [moved]
  refine ⟨fun low => by rw [fall_ignored closed low], fun high => ?_⟩
  rw [fall_clocks closed high]
  refine ⟨fun x held => ?_, fun r rest free waits => ?_, fun y rest free empty waits => ?_, fun free empty none => ?_⟩
  · simp only [Port.fillBuffer, Port.frame, held, opened]
  · simp only [Port.fillBuffer, Port.frame, free, waits, opened]
  · simp only [Port.fillBuffer, Port.frame, free, empty, waits, opened]
  · simp only [Port.fillBuffer, Port.frame, free, empty, none, opened]

/-! ## Chip-select rise (R169 to R173) -/

/-- R169: the whole bytes of a frame's bits and of any more bits are the frame and what came after it. -/
theorem wholeBytes_append (bs : List Byte) (extra : List Bool) :
    wholeBytes (bitsOf bs ++ extra) = bs ++ wholeBytes extra := by
  induction bs with
  | nil => rfl
  | cons b bs ih =>
    have eight : (bitsOf (b :: bs) ++ extra).length / 8 = (bitsOf bs ++ extra).length / 8 + 1 := by
      simp only [bitsOf_cons, List.length_append, length_bitsOfByte]
      omega
    rw [wholeBytes, eight, bitsOf_cons, List.append_assoc, bytesOfBits_cons, List.cons_append, ← ih, wholeBytes]

@[simp] theorem length_bytesOfBits (k : Nat) : ∀ bits : List Bool, (bytesOfBits k bits).length = k := by
  induction k with
  | zero => exact fun _ => rfl
  | succ k ih => exact fun bits => congrArg (· + 1) (ih _)

@[simp] theorem length_wholeBytes (bits : List Bool) : (wholeBytes bits).length = bits.length / 8 :=
  length_bytesOfBits _ _

/-- R169: the rise that ends a window in which the part clocked. -/
theorem exec_rise {bits : List Bool} {s : State} {frame : List Byte} {carried : LinkFlags}
    (clocking : s.port.window = .clocking frame carried) :
    exec (.chipSelectRise bits) s =
      .next (decodeFrame (wholeBytes bits)
        { s with port := s.port.endWindow frame carried (wholeBytes bits).length }) := by
  change Host.Outcome.next (rise (wholeBytes bits) s) = _
  simp only [rise, clocking]
  rfl

theorem endWindow_cut {p : Port} {frame : List Byte} {k : Nat} (h : k < frame.length) (carried : LinkFlags) :
    p.endWindow frame carried k = { p with window := .closed } := if_neg (Nat.not_le.mpr h)

theorem endWindow_whole {p : Port} {frame : List Byte} {k : Nat} (h : frame.length ≤ k) (carried : LinkFlags) :
    p.endWindow frame carried k = { p.deliver with window := .closed, flags := p.flags.minus carried } := if_pos h

/-- R171: no byte, or the kind 00h, is no request. -/
theorem decodeFrame_nothing {host : List Byte} (h : host.headD 0 = 0) (s : State) : decodeFrame host s = s := by
  cases host with
  | nil => rfl
  | cons kind rest => exact if_pos h

/-- R171: a frame too short in its first three bytes, or in its payload. -/
theorem decodeFrame_short {host : List Byte} (request : host.headD 0 ≠ 0)
    (h : host.length < 3 ∨ host.length < 3 + (host.getD 2 0).toNat) (s : State) : decodeFrame host s = setShort s := by
  match host with
  | [] => exact absurd rfl request
  | [_] => exact if_neg request
  | [_, _] => exact if_neg request
  | kind :: tag :: length :: payload =>
    have cut : payload.length < length.toNat := by
      simp only [List.length_cons, List.getD_cons_succ, List.getD_cons_zero] at h
      omega
    exact (if_neg request).trans (if_pos cut)

/-- Settles O46: the window's end by what was clocked and what the buffer holds, then the host's bytes. -/
theorem chipSelectRiseDelivers : Obligations.ChipSelectRiseDelivers := by
  unfold Obligations.ChipSelectRiseDelivers
  intro host frame extra carried s closed cleared next
  refine ⟨fun ignored => ?_, fun clocking few => ?_, fun x => ⟨fun h => decodeFrame_nothing h x, fun request h =>
    decodeFrame_short request h x⟩⟩
  · change Host.Outcome.next (rise _ s) = _
    simp only [rise, ignored]
    rfl
  · have taken : next = .next (decodeFrame host { s with port := s.port.endWindow frame carried host.length }) := by
      simp only [next, exec_rise clocking, wholeBytes_bitsOf host extra few]
    rw [taken]
    refine ⟨fun cut => by rw [endWindow_cut cut], fun whole free => ?_, fun r whole held => ?_, fun x whole held => ?_⟩
    · simp only [endWindow_whole whole, Port.deliver, free, closed, cleared, LinkFlags.minus]
    · simp only [endWindow_whole whole, Port.deliver, held, closed, cleared, LinkFlags.minus, List.drop_one]
    · simp only [endWindow_whole whole, Port.deliver, held, closed, cleared, LinkFlags.minus, settleSlot]

/-! ## The pins (R2, R23, R41, R169, R174) -/

theorem attnLow_iff (p : Port) :
    p.attnLow = true ↔ p.resetLow = false ∧ (p.replies ≠ [] ∨ p.notices ≠ [] ∨ p.buffer ≠ none) := by
  simp [Port.attnLow, Option.isSome_iff_ne_none, or_assoc]

/-- The bits of bytes, one by one. -/
theorem bitsOf_getD (bs : List Byte) {i j : Nat} (hi : i < bs.length) (hj : j < 8) :
    (bitsOf bs).getD (8 * i + j) false = (bs.getD i 0).getLsbD (7 - j) := by
  induction bs generalizing i with
  | nil => exact absurd hi (Nat.not_lt_zero _)
  | cons b bs ih =>
    rw [bitsOf_cons]
    cases i with
    | zero =>
      rw [List.getD_eq_getElem?_getD, List.getElem?_append_left (by simpa using hj)]
      obtain rfl | rfl | rfl | rfl | rfl | rfl | rfl | rfl := lt_eight_cases hj <;> rfl
    | succ i =>
      have later : (bitsOfByte b).length ≤ 8 * (i + 1) + j := by
        rw [length_bitsOfByte]
        omega
      rw [List.getD_eq_getElem?_getD, List.getElem?_append_right later, ← List.getD_eq_getElem?_getD, length_bitsOfByte,
        List.getD_cons_succ, ← ih (Nat.lt_of_succ_lt_succ hi)]
      congr 1
      omega

theorem sdo_clocking {p : Port} {out : List Byte} {carried : LinkFlags} (high : p.resetLow = false)
    (clocking : p.window = .clocking out carried) (k : Nat) : p.sdo k = .driven ((bitsOf out).getD k false) := by
  simp only [Port.sdo, high, clocking, Bool.false_eq_true, if_false]

theorem sdo_silent {p : Port} (h : p.resetLow = true ∨ p.window = .closed ∨ p.window = .ignored) (k : Nat) :
    p.sdo k = .highImpedance := by
  unfold Port.sdo
  obtain low | closed | ignored := h
  · exact if_pos low
  · simp only [closed, ite_self]
  · simp only [ignored, ite_self]

theorem senseCurrent_point {c : Converter} {n : Lane} {p : Point} {live : Bool}
    (h : c.job = some { lane := n, kind := .point p, live }) : c.senseCurrent n = p.current := by
  simp only [Converter.senseCurrent, Converter.forcing, h, if_true]

theorem senseCurrent_bias {c : Converter} {n : Lane}
    (h : ∀ p live, c.job ≠ some { lane := n, kind := .point p, live }) : c.senseCurrent n = Config.biasCurrent := by
  have free : c.forcing n = none := by
    unfold Converter.forcing
    split
    · rename_i job
      exact if_neg fun same => h _ _ (same ▸ job)
    · rfl
    · rfl
  simp only [Converter.senseCurrent, free]

/-- Settles O47. -/
theorem pinsFollowState : Obligations.PinsFollowState := by
  unfold Obligations.PinsFollowState
  intro n out carried i j k live r sdi s
  refine ⟨attnLow_iff _, fun clocking held last quiet whole request => ?_,
    fun high clocking => ⟨fun hi hj => ?_, fun past => ?_⟩,
    fun h => sdo_silent h k, beq_iff_eq, senseCurrent_point, senseCurrent_point, senseCurrent_bias⟩
  · have bits : wholeBytes (bitsOf sdi) = sdi := by simpa using wholeBytes_bitsOf sdi [] (by simp)
    refine ⟨_, exec_rise clocking, ?_⟩
    rw [bits, decodeFrame_nothing request, endWindow_whole whole]
    simp [Port.attnLow, Port.deliver, held, last, quiet]
  · rw [sdo_clocking high clocking, bitsOf_getD out hi hj]
  · rw [sdo_clocking high clocking, List.getD_eq_getElem?_getD, List.getElem?_eq_none (by simpa using past)]
    rfl

end Sys2Proof.Machine
end

section
/-!
The host frames of the requests: what each decodes to, and what is discarded or answered MALFORMED (R171, R175,
section 11.6).
-/

namespace Sys2Proof.Machine

/-! ## What a frame decodes to -/

/-- R169, R171: a frame that is long enough, whatever the host clocks after its end. -/
theorem decodeFrame_frame {kind tag length : Byte} {payload : List Byte} (request : kind ≠ 0)
    (whole : length.toNat ≤ payload.length) (s : State) :
    decodeFrame (kind :: tag :: length :: payload) s = accept (takeRequest kind tag (payload.take length.toNat)) s :=
  (if_neg request).trans (if_neg (Nat.not_lt.mpr whole))

theorem decodeFrame_hostFrame {kind tag : Byte} {payload : List Byte} (request : kind ≠ 0) (small : payload.length < 256)
    (rest : List Byte) (s : State) :
    decodeFrame (hostFrame kind tag payload ++ rest) s = accept (takeRequest kind tag payload) s := by
  have length : (u8 payload.length).toNat = payload.length := by
    rw [u8, BitVec.toNat_ofNat, Nat.mod_eq_of_lt small]
  have whole : (u8 payload.length).toNat ≤ (payload ++ rest).length := by
    rw [length, List.length_append]
    exact Nat.le_add_right _ _
  refine (decodeFrame_frame request whole s).trans ?_
  rw [length, List.take_left']
  rfl

/-- The bytes of a 16-bit value. -/
theorem append_bytes (v : BitVec 16) : v.extractLsb' 8 8 ++ v.extractLsb' 0 8 = v := by
  ext i hi
  simp only [BitVec.getElem_append, BitVec.getElem_extractLsb']
  split
  · rw [Nat.zero_add, BitVec.getLsbD_eq_getElem hi]
  · rw [show 8 + (i - 8) = i by omega, BitVec.getLsbD_eq_getElem hi]

/-- R175, R176: the pairs of a CONFIGURE payload are those that it spells. -/
theorem pairsOf_bytes (pairs : List SettingPair) : pairsOf (pairs.flatMap pairBytes) = some pairs := by
  induction pairs with
  | nil => rfl
  | cons p ps ih =>
    change (pairsOf (ps.flatMap pairBytes)).map _ = _
    rw [ih, append_bytes]
    rfl

/-- R66, R145: an identity is that of its bytes. -/
theorem identityOf_bytes (x : Identity) : identityOf (identityBytes x) = x := by
  refine BitVec.eq_of_toNat_eq ?_
  simp only [identityOf, identityBytes, List.take_succ_cons, List.take_zero, List.foldl_cons, List.foldl_nil,
    BitVec.toNat_ofNat, BitVec.extractLsb'_toNat, Nat.shiftRight_eq_div_pow]
  have := x.isLt
  omega

/-- R146, section 11.6: the slot fields of a CAT_SLOT payload are those that it spells. -/
theorem slotOf_bytes {x : SlotBytes} (named : x.name.length = 8) : slotOf (slotBytes x) = some x := by
  have fields : (slotBytes x).drop 8 =
      [x.lane, x.cls, x.parent, x.leg, x.required, x.pinFlag] ++ (identityBytes x.pin ++ [x.ordinal]) := by
    rw [slotBytes, List.drop_left' named]
  have name : (slotBytes x).take 8 = x.name := by rw [slotBytes, List.take_left' named]
  simp only [slotOf, fields, name]
  change some _ = _
  congr 1
  exact congrArg (fun i => ({ x with pin := i } : SlotBytes)) (identityOf_bytes x.pin)

/-- R175: CONFIGURE's payload is judged by the pairs that it spells. -/
theorem takeRequest_configure (tag : Byte) (pairs : List SettingPair) :
    takeRequest 0x02 tag (pairs.flatMap pairBytes) = takeConfigure tag pairs := by
  funext s
  cases pairs with
  | nil => rfl
  | cons p ps =>
    have spelt := pairsOf_bytes (p :: ps)
    have long : takeRequest 0x02 tag ((p :: ps).flatMap pairBytes) s =
      takeLong 0x02 tag ((p :: ps).flatMap pairBytes) s := rfl
    rw [long, takeLong, spelt]
    rfl

/-- R145, R175: CAT_TOOL's payload is judged by the key that it spells. -/
theorem takeRequest_catTool (tag number : Byte) (key : Identity) (x : PerLane Byte) :
    takeRequest 0x08 tag (number :: (identityBytes key ++ x.toList)) = takeCatTool tag number key x := by
  funext s
  change takeCatTool tag number (identityOf (identityBytes key)) x s = _
  rw [identityOf_bytes]

theorem takeLong_slot (tag number : Byte) {rest : List Byte} {x : SlotBytes} (spelt : slotOf rest = some x) (s : State) :
    takeLong 0x09 tag (number :: rest) s = takeCatSlot tag number x s := by
  simp [takeLong, spelt]

/-- R146, R175: CAT_SLOT's payload is judged by the slot that it spells. -/
theorem takeRequest_catSlot (tag number : Byte) {x : SlotBytes} (named : x.name.length = 8) :
    takeRequest 0x09 tag (number :: slotBytes x) = takeCatSlot tag number x := by
  funext s
  obtain ⟨a, b, rest, spelt⟩ : ∃ a b rest, slotBytes x = a :: b :: rest := by
    obtain ⟨a, b, rest, name⟩ : ∃ a b rest, x.name = a :: b :: rest := by
      match x.name, named with
      | a :: b :: rest, _ => exact ⟨a, b, rest, rfl⟩
    exact ⟨a, b, _, by rw [slotBytes, name]; rfl⟩
  have long : takeRequest 0x09 tag (number :: slotBytes x) s = takeLong 0x09 tag (number :: slotBytes x) s := by
    rw [spelt]
    rfl
  rw [long, takeLong_slot _ _ (slotOf_bytes named)]

/-! ## Every request -/

/-- A command with a host frame is a request: accepted and handled, or discarded (R171). -/
theorem exec_request {c : Instr} (h : (frameOf c).isSome = true) :
    ∃ handle : State → State, ∀ s, exec c s = .next (accept handle s) := by
  cases c
  case status | configure | grant | rewalk | clear | laneRead | roster | deviceRead | deviceClear | catTool | catSlot
    | catDrop | catRead | nameNow | matchRead | restart => exact ⟨_, fun _ => rfl⟩
  all_goals exact absurd h Bool.false_ne_true

/-- R175: a well-formed request does what its row does with the payload that its frame spells. -/
theorem exec_requestOf {c : Instr} (wf : c.wf = true) {kind tag : Byte} {payload : List Byte}
    (h : requestOf c = some (kind, tag, payload)) (s : State) :
    exec c s = .next (accept (takeRequest kind tag payload) s) := by
  cases c <;> cases h
  case configure pairs => exact congrArg (fun f => Host.Outcome.next (accept f s)) (takeRequest_configure tag pairs).symm
  case catTool number key x =>
    exact congrArg (fun f => Host.Outcome.next (accept f s)) (takeRequest_catTool tag number key x).symm
  case catSlot number x =>
    have named : x.name.length = 8 := by simpa [Instr.wf] using wf
    exact congrArg (fun f => Host.Outcome.next (accept f s)) (takeRequest_catSlot tag number named).symm
  all_goals rfl

/-- R175: the kind of a well-formed request is none of 00h, and its payload is at most that of 20 pairs. -/
theorem requestOf_bounds {c : Instr} (wf : c.wf = true) {kind tag : Byte} {payload : List Byte}
    (h : requestOf c = some (kind, tag, payload)) : kind ≠ 0 ∧ payload.length < 256 := by
  cases c <;> cases h
  case configure pairs =>
    have few : pairs.length ≤ 20 := by
      simp only [Instr.wf, Bool.and_eq_true, decide_eq_true_eq] at wf
      exact wf.2
    refine ⟨by decide, ?_⟩
    rw [Sys2Proof.Laws.FrameLength.length_pairs]
    omega
  case catSlot number x =>
    have named : x.name.length = 8 := by simpa [Instr.wf] using wf
    refine ⟨by decide, ?_⟩
    simp only [List.length_cons, slotBytes, List.length_append, named, identityBytes, List.length_nil]
    decide
  case catTool => exact ⟨by decide, by simp [identityBytes, PerLane.toList]⟩
  all_goals exact ⟨by decide, by simp⟩

/-- Settles O4: the frame is decoded to its payload, which each row judges. -/
theorem requestFramesDecode : Obligations.RequestFramesDecode := by
  unfold Obligations.RequestFramesDecode
  intro c bytes frame extra carried s wf framed
  obtain ⟨⟨kind, tag, payload⟩, request, rfl⟩ := Option.map_eq_some_iff.mp framed
  obtain ⟨known, small⟩ := requestOf_bounds wf request
  refine ⟨?_, fun clocking => ?_⟩
  · have whole := decodeFrame_hostFrame (tag := tag) known small [] s
    rw [List.append_nil] at whole
    rw [exec_requestOf wf request, whole]
  · rw [exec_rise clocking, wholeBytes_append, decodeFrame_hostFrame known small, exec_requestOf wf request,
      List.length_append, length_wholeBytes]

/-! ## Discarded and malformed frames -/

theorem accept_held {s : State} (low : s.port.resetLow = true) (f : State → State) : accept f s = s := if_pos low

theorem accept_full {s : State} (high : s.port.resetLow = false) (full : 8 ≤ s.port.replies.length + s.port.owedCount)
    (f : State → State) : accept f s = setFull s := by
  have isFull : s.port.isFull = true := decide_eq_true full
  simp only [accept, high, isFull, Bool.false_eq_true, if_false, if_true]

theorem takeBare_malformed {kind : Byte} (h : kind.toNat ∉ [1, 12, 13, 14]) (tag : Byte) (s : State) :
    takeBare kind tag s = answerMalformed tag kind s := by
  unfold takeBare
  split
  case h_5 => rfl
  all_goals
    rename_i known
    simp [known] at h

theorem takeOne_malformed {kind : Byte} (h : kind.toNat ∉ [4, 10]) (tag a : Byte) (s : State) :
    takeOne kind tag a s = answerMalformed tag kind s := by
  unfold takeOne
  split
  case h_3 => rfl
  all_goals
    rename_i known
    simp [known] at h

theorem takeTwo_malformed {kind : Byte} (h : kind.toNat ∉ [3, 5, 7, 11]) (tag a b : Byte) (s : State) :
    takeTwo kind tag a b s = answerMalformed tag kind s := by
  unfold takeTwo
  split
  case h_5 => rfl
  all_goals
    rename_i known
    simp [known] at h

/-- R176: the pairs of a payload take three bytes each. -/
theorem pairsOf_length {bytes : List Byte} {pairs : List SettingPair} (h : pairsOf bytes = some pairs) :
    bytes.length = 3 * pairs.length := by
  induction bytes using pairsOf.induct generalizing pairs with
  | case1 => cases h; rfl
  | case2 id hi lo rest ih =>
    obtain ⟨ps, spelt, rfl⟩ := Option.map_eq_some_iff.mp h
    simp only [List.length_cons, ih spelt]
    omega
  | case3 bytes none short =>
    rw [pairsOf.eq_3 bytes none short] at h
    cases h

/-- R146: the slot fields of CAT_SLOT take 21 bytes. -/
theorem slotOf_length {bytes : List Byte} {x : SlotBytes} (h : slotOf bytes = some x) : bytes.length = 21 := by
  unfold slotOf at h
  split at h
  · rename_i fields
    have length := congrArg List.length fields
    simp only [List.length_drop, List.length_cons, List.length_nil] at length
    omega
  · cases h

/-- R175, R176: a list of pairs that is empty or longer than 20. -/
theorem takeConfigure_count {pairs : List SettingPair} (h : pairs.length = 0 ∨ 20 < pairs.length) (tag : Byte) (s : State) :
    takeConfigure tag pairs s = answerMalformed tag 0x02 s :=
  if_pos (h.imp_right .inl)

theorem takeLong_malformed {kind : Byte} {payload : List Byte}
    (configure : kind.toNat = 2 → payload.length = 0 ∨ 60 < payload.length ∨ payload.length % 3 ≠ 0)
    (deviceRead : kind.toNat = 6 → payload.length ≠ 4) (catTool : kind.toNat = 8 → payload.length ≠ 11)
    (catSlot : kind.toNat = 9 → payload.length ≠ 22) (tag : Byte) (s : State) :
    takeLong kind tag payload s = answerMalformed tag kind s := by
  unfold takeLong
  split
  · rename_i payload _ _ two
    cases spelt : pairsOf payload with
    | none => rfl
    | some pairs =>
      have length := pairsOf_length spelt
      have count : pairs.length = 0 ∨ 20 < pairs.length := by
        have := configure two
        omega
      have kind_eq : kind = 0x02 := BitVec.eq_of_toNat_eq two
      exact (takeConfigure_count count tag s).trans (congrArg (answerMalformed tag · s) kind_eq.symm)
  · exact absurd rfl (deviceRead (by assumption))
  · exact absurd rfl (catTool (by assumption))
  · rename_i rest nine
    cases spelt : slotOf rest with
    | none => rfl
    | some x => exact absurd (congrArg (· + 1) (slotOf_length spelt)) (catSlot nine)
  · rfl

/-- Settles O48: no row takes the payload's length. -/
theorem framesAreDiscardedOrMalformed : Obligations.FramesAreDiscardedOrMalformed := by
  unfold Obligations.FramesAreDiscardedOrMalformed
  refine ⟨fun c s framed => ?_, ?_⟩
  · obtain ⟨handle, request⟩ := exec_request framed
    refine ⟨fun low => by rw [request, accept_held low], fun high full => by rw [request, accept_full high full]; rfl⟩
  · intro kind tag length payload s takes whole k l known wrong
    have request : kind ≠ 0 := byte_ne_zero known
    rw [decodeFrame_frame request whole, accept_takes takes]
    have taken : (payload.take length.toNat).length = l := by
      rw [List.length_take]
      exact Nat.min_eq_left whole
    generalize payload.take length.toNat = p at taken
    change takeRequest kind tag p s = answerMalformed tag kind s
    have code : kind.toNat = k := rfl
    match p with
    | [] =>
      refine takeBare_malformed ?_ tag s
      simp only [List.mem_cons, List.not_mem_nil, or_false, List.length_nil] at wrong taken ⊢
      omega
    | [a] =>
      refine takeOne_malformed ?_ tag a s
      simp only [List.mem_cons, List.not_mem_nil, or_false, List.length_cons, List.length_nil] at wrong taken ⊢
      omega
    | [a, b] =>
      refine takeTwo_malformed ?_ tag a b s
      simp only [List.mem_cons, List.not_mem_nil, or_false, List.length_cons, List.length_nil] at wrong taken ⊢
      omega
    | a :: b :: c :: rest =>
      simp only [List.mem_cons, List.not_mem_nil, or_false] at wrong
      refine takeLong_malformed ?_ ?_ ?_ ?_ tag s <;> rw [taken] <;> omega

end Sys2Proof.Machine
end

section
/-!
The reading requests, DEVICE_CLEAR and DEVICE_READ: their ranges, their refusals, and what each answers (R128, R130,
R150, R175,
R177).
-/

namespace Sys2Proof.Machine

/-! ## Fields -/

theorem handleField_some {handle : Byte} (low : 1 ≤ handle.toNat) (high : handle.toNat ≤ 30) :
    handleField handle = some handle.toNat := if_pos ⟨low, high⟩

theorem handleField_none {handle : Byte} (h : handle = 0 ∨ 30 < handle.toNat) : handleField handle = none := by
  refine if_neg fun ⟨low, high⟩ => ?_
  obtain rfl | large := h
  · exact absurd low (by decide)
  · exact absurd high (Nat.not_le.mpr large)

theorem Lane.number_injective {m n : Lane} (h : m.number = n.number) : m = n := by
  cases m <;> cases n <;> first | rfl | cases h

section

variable {tag lane handle : Byte} {s : State}

theorem takeRoster_some {n : Lane} {h : Nat} (hl : laneField lane = some n) (hh : handleField handle = some h) :
    takeRoster tag lane handle s = answer tag 0x05 .ok (s.table.rosterPayload ⟨n, h⟩) s := by
  simp only [takeRoster, hl, hh]

theorem takeRoster_range (h : laneField lane = none ∨ handleField handle = none) :
    takeRoster tag lane handle s = answer tag 0x05 .range [] s := by
  unfold takeRoster
  split
  · rename_i hl hh
    simp [hl, hh] at h
  · rfl

theorem takeDeviceClear_range (h : laneField lane = none ∨ handleField handle = none) :
    takeDeviceClear tag lane handle s = answer tag 0x07 .range [] s := by
  unfold takeDeviceClear
  split
  · rename_i hl hh
    simp [hl, hh] at h
  · rfl

theorem takeDeviceRead_range (h : laneField lane = none ∨ handleField handle = none) (offset count : Byte) :
    takeDeviceRead tag lane handle offset count s = answer tag 0x06 .range [] s := by
  unfold takeDeviceRead
  split
  · rename_i hl hh
    simp [hl, hh] at h
  · rfl

/-- R175: a request on a lane and a handle of which one is out of its range. -/
theorem fields_none (h : lane = 0 ∨ 4 < lane.toNat ∨ handle = 0 ∨ 30 < handle.toNat) :
    laneField lane = none ∨ handleField handle = none := by
  obtain zero | large | h := h
  · exact .inl (laneField_none (.inl zero))
  · exact .inl (laneField_none (.inr large))
  · exact .inr (handleField_none h)

end

/-! ## The reading requests (R130, R150, R167, R175) -/

theorem length_statusPayload (s : State) : s.statusPayload.length = 10 := rfl

theorem length_measurement (m : Measurement) : m.bytes.length = 7 := by
  unfold Measurement.bytes
  split <;> rfl

theorem length_laneRecord (s : State) (n : Lane) : (s.laneRecord n).length = 46 := by
  simp [State.laneRecord, SignatureRecord.bytes, length_measurement, Supervisor.bytes, WalkRecord.bytes, u16, s16]

theorem length_nameBytes (name : List Byte) : (nameBytes name).length = 8 := by simp [nameBytes]

theorem length_entryRecord (t : DeviceTable) (e : Entry) : (t.entryRecord e).length = 27 := by
  simp [DeviceTable.entryRecord, identityBytes, length_nameBytes]

/-- A list of records of one length. -/
theorem length_records {α : Type} (l : List α) (f : α → List Byte) {k : Nat} (h : ∀ x, (f x).length = k) :
    (l.flatMap f).length = k * l.length := by
  simp only [List.length_flatMap, h, List.map_const', List.sum_replicate_nat, Nat.mul_comm]

/-- R130: the entries from a lane and handle on. -/
theorem fromStart_eq (t : DeviceTable) (n : Lane) (h : Nat) :
    t.fromStart ⟨n, h⟩ =
      t.entries.filter fun e => n.number < e.key.lane.number || (e.key.lane = n && h ≤ e.key.handle) := by
  refine List.filter_congr fun e _ => ?_
  have same : e.key.lane.number = n.number ↔ e.key.lane = n := ⟨Lane.number_injective, congrArg _⟩
  rw [Bool.eq_iff_iff]
  simp only [EntryKey.before, Bool.not_eq_true', Bool.or_eq_false_iff, Bool.and_eq_false_iff, decide_eq_false_iff_not,
    beq_eq_false_iff_ne, Bool.or_eq_true, Bool.and_eq_true, decide_eq_true_eq, ← same]
  omega

theorem length_rosterPayload (t : DeviceTable) (k : EntryKey) :
    (t.rosterPayload k).length = 3 + 27 * min 8 (t.fromStart k).length := by
  simp only [DeviceTable.rosterPayload, List.length_append, length_records _ _ (length_entryRecord t), List.length_take,
    List.length_cons, List.length_nil]
  rfl

theorem length_listPayload (c : Catalogue) : c.listPayload.length = 2 + 8 * c.tools.length := by
  have tools : (c.tools.flatMap fun t => u8 t.number :: (identityBytes t.key ++ [u8 t.slots.length])).length =
    8 * c.tools.length := length_records _ _ fun _ => rfl
  rw [Catalogue.listPayload, List.length_append, tools]
  rfl

theorem readAnswer_range {number start : Byte} (h : 8 < number.toNat ∨ start = 0 ∨ 64 < start.toNat) (c : Catalogue) :
    c.readAnswer number start = (.range, []) := if_pos h

theorem readAnswer_list {start : Byte} (low : 1 ≤ start.toNat) (high : start.toNat ≤ 64) (c : Catalogue) :
    c.readAnswer 0 start = (.ok, c.listPayload) := by
  have inRange : ¬(Config.toolCount < (0 : Byte).toNat ∨ start = 0 ∨ Config.poolPlaces < start.toNat) := by
    rintro (none | zero | large)
    · exact absurd none (by decide)
    · exact byte_ne_zero low zero
    · exact absurd large (Nat.not_lt.mpr high)
  exact (if_neg inRange).trans (if_pos rfl)

/-- R150: CAT_READ of a tool number, from its first slot. -/
theorem readAnswer_tool {number : Byte} (low : 1 ≤ number.toNat) (high : number.toNat ≤ 8) (c : Catalogue) :
    c.readAnswer number 1 =
      ((c.tool number.toNat).elim (.notFound, []) fun t => (.ok, t.readPayload 1)) := by
  have inRange : ¬(Config.toolCount < number.toNat ∨ (1 : Byte) = 0 ∨ Config.poolPlaces < (1 : Byte).toNat) := by
    rintro (large | zero | large)
    · exact absurd large (Nat.not_lt.mpr high)
    · exact absurd zero (by decide)
    · exact absurd large (by decide)
  refine (if_neg inRange).trans ((if_neg (byte_ne_zero low)).trans ?_)
  cases c.tool number.toNat <;> rfl

theorem length_matchRecord (u : Naming) : u.bytes.length = 10 + u.record.unmatched.length := by
  simp only [Naming.bytes, List.length_append, List.length_map, List.length_cons, List.length_nil, u16]

/-- Settles O49. -/
theorem readingRequestsOnlyReply : Obligations.ReadingRequestsOnlyReply := by
  unfold Obligations.ReadingRequestsOnlyReply
  intro tag a b n s takes refused
  have accepted : ∀ f : State → State, (.next (accept f s) : Answer) = .next (f s) :=
    fun f => congrArg _ (accept_takes takes f)
  have catRead : ∀ number start, exec (.catRead tag number start) s =
      .next (answer tag 0x0B (s.catalogue.readAnswer number start).1 (s.catalogue.readAnswer number start).2 s) :=
    fun number start => accepted (takeCatRead tag number start)
  refine ⟨fun h => ?_, fun h => ?_, fun h => ?_, fun lane low high => ⟨accepted _, length_statusPayload s, ?_,
    length_laneRecord s n, ?_, ?_, ?_, length_listPayload _, fun undefined small => ?_, fun t defined small => ?_,
    accepted _, length_matchRecord _⟩⟩
  · refine (accepted (takeLaneRead tag a)).trans ?_
    rw [takeLaneRead, laneField_none h]
    rfl
  · refine (accepted (takeRoster tag a b)).trans ?_
    rw [takeRoster_range (fields_none h)]
    rfl
  · rw [catRead, readAnswer_range h]
    rfl
  · refine (accepted (takeLaneRead tag a)).trans ?_
    rw [takeLaneRead, laneField_some lane]
    rfl
  · refine (accepted (takeRoster tag a b)).trans ?_
    rw [takeRoster_some (laneField_some lane) (handleField_some low high)]
    rfl
  · rw [length_rosterPayload, fromStart_eq]
  · rw [catRead, readAnswer_list low (by omega)]
    rfl
  · rw [catRead, readAnswer_tool low small, undefined]
    rfl
  · rw [catRead, readAnswer_tool low small, defined]
    rfl

/-! ## DEVICE_CLEAR (R128) -/

/-- Settles O53. -/
theorem deviceClearResetsErrors : Obligations.DeviceClearResetsErrors := by
  unfold Obligations.DeviceClearResetsErrors
  intro tag lane handle n e s takes replied next
  have taken : next = .next (takeDeviceClear tag lane handle s) :=
    congrArg Host.Outcome.next (accept_takes takes (takeDeviceClear tag lane handle))
  rw [taken]
  refine ⟨fun h => ?_, fun field low high => ⟨fun absent => ?_, fun found => ?_⟩⟩
  · rw [takeDeviceClear_range (fields_none h)]
    rfl
  · simp only [takeDeviceClear, laneField_some field, handleField_some low high, absent]
    rfl
  · simp only [takeDeviceClear, laneField_some field, handleField_some low high, found, raiseRoster_eq]
    rfl

/-! ## DEVICE_READ (R88, R177) -/

/-- R137, R177: the handles that a read finds are those of the lane's PRESENT and LOST entries. -/
theorem mem_probedHandles {s : State} {n : Lane} {h : Nat} :
    h ∈ s.probedHandles n ↔ ∃ e ∈ s.table.ofLane n, e.key.handle = h ∧ e.state ≠ .away := by
  simp only [State.probedHandles, List.mem_map, List.mem_filter, bound_iff]
  exact ⟨fun ⟨e, ⟨mem, bound⟩, eq⟩ => ⟨e, mem, eq, bound⟩, fun ⟨e, mem, eq, bound⟩ => ⟨e, ⟨mem, bound⟩, eq⟩⟩

section

variable {n : Lane} {h : Nat} {s : State}

theorem readRefusal_state (r : s.laneState n ≠ .ready ∨ (s.col n).ctl.rewalkWaiting = true) :
    s.readRefusal n h = some .refusedState := if_pos r

variable (ready : s.laneState n = .ready) (free : (s.col n).ctl.rewalkWaiting = false)
include ready free

theorem readRefusal_absent (absent : h ∉ s.probedHandles n) : s.readRefusal n h = some .noEntry := by
  simp [State.readRefusal, ready, free, absent]

theorem readRefusal_present (present : h ∈ s.probedHandles n) :
    s.readRefusal n h = if (s.col n).slot = .free then none else some .busy := by
  cases slot : (s.col n).slot <;> simp [State.readRefusal, ready, free, present, slot]

end

theorem lineGrant_modPort (n : Lane) (f : Port → Port) (s : State) :
    lineGrant n (s.modPort f) = (lineGrant n s).modPort f := by
  rw [lineGrant_eq, lineGrant_eq]
  rfl

/-- R177: the count byte brought into range. -/
theorem readCount_eq (offset count : Byte) :
    readCount offset.toNat count.toNat =
      min (if count = 0 ∨ 128 < count.toNat then 128 else count.toNat) (256 - offset.toNat) := by
  have zero : count = 0 ↔ count.toNat = 0 := BitVec.toNat_eq
  simp only [zero]
  rfl

/-- R84, R88: an accepted read's first chunk is granted at once on an idle engine. -/
theorem startRead_granted {n : Lane} {s : State} {r : Read} (idle : (s.col n).engine.phase = .idle)
    (procedure : (s.col n).arbiter.procedure = none) (tag : Byte) :
    startRead tag n r s =
      { s.withColumn n
          { s.col n with
            slot := .busy r
            engine := (s.col n).engine.granted s.settings n .transfer
              (peekRequest r.handle r.next (min Config.chunkLimit r.remaining))
            arbiter := { procedure := none, transfer := none, lastGrant := .transfer } } with
        port := { s.port with owed := s.port.owed.set n (some tag) } } := by
  have placed : placeChunk n r (oweRead n tag r s) =
      (s.withColumn n
        { s.col n with
          slot := .busy r
          arbiter := { (s.col n).arbiter with
            transfer := some (peekRequest r.handle r.next (min Config.chunkLimit r.remaining)) } }).modPort
        fun p => { p with owed := p.owed.set n (some tag) } := by
    simp only [placeChunk, placeRequest, oweRead, updates_eq, withColumn_col, withColumn_withColumn,
      modPort_withColumn, State.modPort_col]
  rw [startRead, placed, lineGrant_modPort, lineGrant_eq, withColumn_col, withColumn_withColumn]
  exact congrArg (fun c => { s.withColumn n c with port := { s.port with owed := s.port.owed.set n (some tag) } })
    (lineGranted_transfer (c := { s.col n with slot := .busy r, arbiter := { (s.col n).arbiter with transfer := some _ } })
      idle procedure rfl s.settings n)

/-- Settles O52: the four checks in their order, then the first chunk placed and granted. -/
theorem deviceReadIsChecked : Obligations.DeviceReadIsChecked := by
  unfold Obligations.DeviceReadIsChecked
  intro tag lane handle offset count n s takes refused next whole taken
  have handled : next = .next (takeDeviceRead tag lane handle offset count s) :=
    congrArg Host.Outcome.next (accept_takes takes (takeDeviceRead tag lane handle offset count))
  rw [handled]
  refine ⟨fun h => ?_, fun field low high => ⟨fun r => ?_, fun ready free => ⟨fun away => ?_, fun bound => ⟨fun busy => ?_,
    fun idle rest noProcedure => ?_⟩⟩⟩⟩
  · rw [takeDeviceRead_range (fields_none h)]
    rfl
  · simp only [takeDeviceRead, laneField_some field, handleField_some low high, readRefusal_state r]
    rfl
  · have absent : handle.toNat ∉ s.probedHandles n := by
      rw [mem_probedHandles]
      rintro ⟨e, mem, eq, bound⟩
      exact bound (away e mem eq)
    simp only [takeDeviceRead, laneField_some field, handleField_some low high, readRefusal_absent ready free absent]
    rfl
  all_goals
    have present := readRefusal_present ready free (mem_probedHandles.mpr bound)
  · simp only [takeDeviceRead, laneField_some field, handleField_some low high, present, busy, if_false]
    rfl
  · simp only [takeDeviceRead, laneField_some field, handleField_some low high, present, idle, if_true,
      startRead_granted rest noProcedure, readCount_eq]
    rfl

end Sys2Proof.Machine
end

section
/-!
CONFIGURE: the settings table, what a list of pairs does, and lane enable (R18, R139, R176).
-/

namespace Sys2Proof.Machine

/-! ## The settings table -/

/-- R176: the id of a setting. -/
def SettingId.code : SettingId → Nat
  | .mateSettle => 0x01
  | .remateHold => 0x02
  | .bootWait => 0x03
  | .stallLimit => 0x04
  | .retryLimit => 0x05
  | .rollCallPeriod => 0x06
  | .lossCount => 0x07
  | .degradeThreshold => 0x08
  | .sweep => 0x09
  | .sweepBudget => 0x0A
  | .policy n => 0x10 + n.number
  | .enable n => 0x20 + n.number
  | .lineRate n => 0x30 + n.number

theorem code_of_settingOf {id : Byte} {x : SettingId} (h : settingOf id = some x) : id.toNat = x.code := by
  unfold settingOf at h
  split at h <;> cases h <;> assumption

theorem settingOf_of_code {id : Byte} {x : SettingId} (h : id.toNat = x.code) : settingOf id = some x := by
  rw [settingOf, h]
  cases x
  case policy n => cases n <;> rfl
  case enable n => cases n <;> rfl
  case lineRate n => cases n <;> rfl
  all_goals rfl

theorem code_mem (x : SettingId) : x.code ∈ settingIds := by
  cases x
  case policy n => cases n <;> decide
  case enable n => cases n <;> decide
  case lineRate n => cases n <;> decide
  all_goals decide

/-- R176: the ids of the table are those that name a setting. -/
theorem settingOf_isSome_iff (id : Byte) : (settingOf id).isSome = true ↔ id.toNat ∈ settingIds := by
  constructor
  · intro h
    obtain ⟨x, named⟩ := Option.isSome_iff_exists.mp h
    exact code_of_settingOf named ▸ code_mem x
  · intro h
    unfold settingOf
    split <;> first | rfl | simp_all [settingIds]

/-- R176: brought into a range whose ends are whole steps, and down to a whole step. -/
theorem clampStep_eq {low high step : Nat} (le : low ≤ high) (l : step ∣ low) (h : step ∣ high) (v : Nat) :
    clampStep low high step v = min high (max low (v / step * step)) := by
  have down : v / step * step ≤ v := Nat.div_mul_le_self v step
  unfold clampStep
  split
  · omega
  · rename_i above
    have lowStep : low ≤ v / step * step := by
      obtain ⟨k, rfl⟩ := l
      rcases Nat.eq_zero_or_pos step with rfl | pos
      · omega
      · rw [Nat.mul_comm step k]
        exact Nat.mul_le_mul_right _ ((Nat.le_div_iff_mul_le pos).mpr (by rw [Nat.mul_comm]; omega))
    split
    · have highStep : high ≤ v / step * step := by
        obtain ⟨k, rfl⟩ := h
        rcases Nat.eq_zero_or_pos step with rfl | pos
        · omega
        · rw [Nat.mul_comm step k]
          exact Nat.mul_le_mul_right _ ((Nat.le_div_iff_mul_le pos).mpr (by rw [Nat.mul_comm]; omega))
      omega
    · omega

theorem mark_eq (v : Nat) : (if v = 0 then 0 else 1) = min 1 v := by
  split <;> omega

theorem kbits_rateOf (v : Nat) :
    (rateOf v).kbits = if v < 50 then 25 else if v < 100 then 50 else if v < 200 then 100 else 200 := by
  unfold rateOf
  split
  · rw [if_neg (by omega), if_neg (by omega), if_neg (by omega)]
    rfl
  · split
    · rw [if_neg (by omega), if_neg (by omega), if_pos (by omega)]
      rfl
    · split
      · rw [if_neg (by omega), if_pos (by omega)]
        rfl
      · rw [if_pos (by omega)]
        rfl

/-- R176: the value taken for a setting. -/
theorem taken_eq (x : SettingId) (v : Nat) : x.taken v = takenValue x.code v := by
  cases x
  case mateSettle => exact clampStep_eq (by decide) (by decide) (by decide) v
  case remateHold => exact clampStep_eq (by decide) (by decide) (by decide) v
  case bootWait => exact clampStep_eq (by decide) (by decide) (by decide) v
  case stallLimit => exact clampStep_eq (by decide) (by decide) (by decide) v
  case retryLimit => exact clampStep_eq (by decide) (by decide) (by decide) v
  case rollCallPeriod => exact clampStep_eq (by decide) (by decide) (by decide) v
  case lossCount => exact clampStep_eq (by decide) (by decide) (by decide) v
  case degradeThreshold => exact clampStep_eq (by decide) (by decide) (by decide) v
  case sweep => exact mark_eq v
  case sweepBudget => exact clampStep_eq (by decide) (by decide) (by decide) v
  case policy n => cases n <;> exact mark_eq v
  case enable n => cases n <;> exact mark_eq v
  case lineRate n => cases n <;> exact kbits_rateOf v

theorem rateOf_kbits (r : LineRate) : rateOf r.kbits = r := by cases r <;> rfl

theorem rateTaken_kbits (r : LineRate) : rateTaken r.kbits = r := by cases r <;> rfl

theorem stored_enable (g : Settings) (n : Lane) (v : Nat) :
    g.stored (SettingId.enable n).code v = { g with enabled := g.enabled.set n (v = 1) } := by cases n <;> rfl

theorem stored_lineRate (g : Settings) (n : Lane) (v : Nat) :
    g.stored (SettingId.lineRate n).code v = { g with lineRate := g.lineRate.set n (rateTaken v) } := by cases n <;> rfl

/-- R176: a value taken, stored. -/
theorem put_taken (g : Settings) (x : SettingId) (v : Nat) : g.put x (x.taken v) = g.stored x.code (x.taken v) := by
  have flag : ((if v = 0 then 0 else 1) != 0) = decide ((if v = 0 then 0 else 1) = 1) := by split <;> rfl
  cases x
  case sweep => exact congrArg (fun b => { g with sweep := b }) flag
  case enable n =>
    rw [stored_enable]
    exact congrArg (fun b => { g with enabled := g.enabled.set n b }) flag
  case lineRate n =>
    rw [stored_lineRate, SettingId.taken, rateTaken_kbits, Settings.put, rateOf_kbits]
  case policy n => cases n <;> rfl
  all_goals rfl

/-! ## One pair (R176) -/

/-- R176: whether a pair names a setting of the table. -/
def NamesSetting (p : SettingPair) : Prop := p.id.toNat ∈ settingIds

theorem NamesSetting.setting {p : SettingPair} (h : NamesSetting p) : ∃ x, settingOf p.id = some x :=
  Option.isSome_iff_exists.mp ((settingOf_isSome_iff _).mpr h)

/-- R176: a pair of the reply tells the value taken. -/
theorem reply_eq {p : SettingPair} (h : NamesSetting p) : SettingPair.reply p = pairTaken p := by
  obtain ⟨x, named⟩ := h.setting
  simp only [SettingPair.reply, named, pairTaken, taken_eq, code_of_settingOf named]
  rfl

/-- R139, R176: a pair applied is its effect and the value taken, stored. -/
theorem applyPair_eq {p : SettingPair} {x : SettingId} (named : settingOf p.id = some x) (s : State) :
    applyPair s p =
      { settingEffect x (x.taken p.value.toNat) s with
        settings := (settingEffect x (x.taken p.value.toNat) s).settings.put x (x.taken p.value.toNat) } := by
  simp only [applyPair, named, applySetting]

/-- R176: the settings in force later only are those whose application stores them alone. -/
theorem settingEffect_later {x : SettingId} (loss : x ≠ .lossCount) (enable : ∀ n, x ≠ .enable n) (v : Nat) (s : State) :
    settingEffect x v s = s := by
  cases x
  case lossCount => exact absurd rfl loss
  case enable n => exact absurd rfl (enable n)
  all_goals rfl

theorem applyPair_later {p : SettingPair} (known : NamesSetting p) (loss : p.id ≠ 0x07)
    (enable : p.id.toNat ∉ [0x21, 0x22, 0x23, 0x24])
    (s : State) :
    applyPair s p = { s with settings := s.settings.stored p.id.toNat (takenValue p.id.toNat p.value.toNat) } := by
  obtain ⟨x, named⟩ := known.setting
  have code := code_of_settingOf named
  have notLoss : x ≠ .lossCount := fun e => loss (BitVec.eq_of_toNat_eq (by rw [code, e]; rfl))
  have notEnable (n : Lane) : x ≠ .enable n := fun e => enable (by rw [code, e]; cases n <;> decide)
  rw [applyPair_eq named, settingEffect_later notLoss notEnable, put_taken, taken_eq, code]

theorem applyPairs_later (pairs : List SettingPair)
    (h : ∀ p ∈ pairs, p.id.toNat ∈ settingIds ∧ p.id ≠ 0x07 ∧ p.id.toNat ∉ [0x21, 0x22, 0x23, 0x24]) (s : State) :
    pairs.foldl applyPair s =
      { s with
        settings := pairs.foldl (fun g p => g.stored p.id.toNat (takenValue p.id.toNat p.value.toNat)) s.settings } := by
  induction pairs generalizing s with
  | nil => rfl
  | cons p ps ih =>
    obtain ⟨known, loss, enable⟩ := h p List.mem_cons_self
    rw [List.foldl_cons, List.foldl_cons, ih (fun q mem => h q (List.mem_cons_of_mem _ mem)),
      applyPair_later known loss enable]

/-- R139: a lowered loss count lowers the miss counts above it. -/
theorem applyPair_loss {p : SettingPair} (named : settingOf p.id = some .lossCount) (s : State) :
    applyPair s p =
      { s with
        settings := { s.settings with lossCount := takenValue 0x07 p.value.toNat }
        table :=
          if takenValue 0x07 p.value.toNat < s.settings.lossCount then
            lowerMisses (takenValue 0x07 p.value.toNat) s.table
          else s.table } := by
  have code : takenValue SettingId.lossCount.code p.value.toNat = takenValue 0x07 p.value.toNat := rfl
  rw [applyPair_eq named, taken_eq, settingEffect, code]
  split <;> rfl

/-! ## A list of pairs (R175, R176) -/

/-- R175: whether a list of pairs is one that CONFIGURE takes. -/
def Configures (pairs : List SettingPair) : Prop := pairs ≠ [] ∧ pairs.length ≤ 20 ∧ ∀ p ∈ pairs, NamesSetting p

theorem takeConfigure_malformed {pairs : List SettingPair} (h : ¬Configures pairs) (tag : Byte) (s : State) :
    takeConfigure tag pairs s = answerMalformed tag 0x02 s := by
  refine if_pos ?_
  rw [List.any_eq_true]
  refine Classical.byContradiction fun fine => ?_
  simp only [not_or, not_exists, not_and] at fine
  obtain ⟨some, few, known⟩ := fine
  refine h ⟨by simpa using some, Nat.le_of_not_lt few, fun p mem => (settingOf_isSome_iff _).mp ?_⟩
  simpa [Option.isSome_iff_ne_none] using known p mem

theorem takeConfigure_takes {pairs : List SettingPair} (h : Configures pairs) (tag : Byte) (s : State) :
    takeConfigure tag pairs s =
      placeReply { tag, code := 0x02, status := .ok, payload := pairs.flatMap pairTaken } (pairs.foldl applyPair s) := by
  obtain ⟨some, few, known⟩ := h
  have fine : ¬(pairs.length = 0 ∨ Config.pairLimit < pairs.length ∨ pairs.any fun p => (settingOf p.id).isNone) := by
    rintro (none | many | unknown)
    · exact some (List.eq_nil_of_length_eq_zero none)
    · exact absurd many (Nat.not_lt.mpr few)
    · obtain ⟨p, mem, none⟩ := List.any_eq_true.mp unknown
      obtain ⟨x, named⟩ := (known p mem).setting
      simp [named] at none
  have replies : pairs.flatMap SettingPair.reply = pairs.flatMap pairTaken :=
    gathers_same fun p mem => reply_eq (known p mem)
  rw [takeConfigure, if_neg fine, replies]
  rfl

/-- R173: the reply that was placed last, and the state before it. -/
theorem placeReply_injective {p q : Reply} {s t : State} (h : placeReply p s = placeReply q t) : p = q ∧ s = t := by
  have last (r : Reply) (x : State) : (placeReply r x).port.replies.getLast? = some r := by simp
  have before (r : Reply) (x : State) :
      (placeReply r x).modPort (fun y => { y with replies := y.replies.dropLast }) = x := by
    simp [placeReply, State.modPort]
  constructor
  · have same := congrArg (fun x : State => x.port.replies.getLast?) h
    simpa only [last, Option.some.injEq] using same
  · have same := congrArg (fun x : State => x.modPort fun y => { y with replies := y.replies.dropLast }) h
    simpa only [before] using same

/-- A CONFIGURE answered OK was taken whole. -/
theorem takeConfigure_ok {pairs : List SettingPair} {tag : Byte} {payload : List Byte} {s t : State}
    (h : takeConfigure tag pairs s = placeReply { tag, code := 0x02, status := .ok, payload } t) :
    Configures pairs ∧ payload = pairs.flatMap pairTaken ∧ t = pairs.foldl applyPair s := by
  have taken : Configures pairs := by
    refine Classical.byContradiction fun malformed => ?_
    rw [takeConfigure_malformed malformed] at h
    exact absurd (congrArg Reply.status (placeReply_injective h).1) (by simp)
  rw [takeConfigure_takes taken] at h
  obtain ⟨reply, state⟩ := placeReply_injective h
  exact ⟨taken, (congrArg Reply.payload reply).symm, state.symm⟩

/-- Settles O50. -/
theorem configureTakesValue : Obligations.ConfigureTakesValue := by
  unfold Obligations.ConfigureTakesValue
  intro tag p pairs a b s u v takes replied value
  have accepted : ∀ (x : State), x.port.takes → ∀ pairs, exec (.configure tag pairs) x = .next (takeConfigure tag pairs x) :=
    fun x takes pairs => congrArg Host.Outcome.next (accept_takes takes (takeConfigure tag pairs))
  refine ⟨fun malformed => ?_, fun some few later => ?_, fun loss => ?_, fun some few takesNext first rest => ?_⟩
  · rw [accepted s takes, takeConfigure_malformed]
    · rfl
    · rintro ⟨some, few, known⟩
      obtain none | many | ⟨q, mem, unknown⟩ := malformed
      · exact some none
      · exact absurd many (Nat.not_lt.mpr few)
      · exact unknown (known q mem)
  · rw [accepted s takes, takeConfigure_takes ⟨some, few, fun q mem => (later q mem).1⟩, applyPairs_later pairs later]
  · have named : settingOf p.id = Option.some .lossCount := settingOf_of_code (by rw [loss]; rfl)
    have known : NamesSetting p := (settingOf_isSome_iff _).mp (by rw [named]; rfl)
    rw [accepted s takes, takeConfigure_takes ⟨List.cons_ne_nil _ _, by simp, by simpa using known⟩]
    have taken : pairTaken p = [0x07, 0, BitVec.ofNat 8 value] := by
      have high : takenValue (0x07 : Byte).toNat p.value.toNat ≤ 7 := Nat.min_le_left _ _
      have small : takenValue (0x07 : Byte).toNat p.value.toNat / 256 = 0 := by omega
      simp only [value, pairTaken, loss, small]
      rfl
    rw [List.flatMap_cons, List.flatMap_nil, List.append_nil, taken, List.foldl_cons, List.foldl_nil,
      applyPair_loss named]
    simp only [value, code_of_settingOf named]
    rfl
  · rw [accepted s takes] at first
    rw [accepted u takesNext] at rest
    obtain ⟨⟨_, _, known⟩, rfl, rfl⟩ := takeConfigure_ok (Host.Outcome.next.inj first)
    obtain ⟨⟨_, _, knownRest⟩, rfl, rfl⟩ := takeConfigure_ok (Host.Outcome.next.inj rest)
    have whole : Configures (p :: pairs) :=
      ⟨List.cons_ne_nil _ _, few, List.forall_mem_cons.mpr ⟨known p List.mem_cons_self, knownRest⟩⟩
    rw [accepted s takes, takeConfigure_takes whole]
    simp only [List.flatMap_cons, List.flatMap_nil, List.append_nil, List.foldl_cons, List.foldl_nil, replied]

/-! ## Lane enable (R3, R18, R124) -/

section

variable {n : Lane} {s : State}

/-- The id of a lane's enable. -/
def enableId (n : Lane) : Byte := BitVec.ofNat 8 (0x20 + n.number)

theorem settingOf_enableId (n : Lane) : settingOf (enableId n) = some (.enable n) := by cases n <;> rfl

theorem settingEffect_settings (x : SettingId) (v : Nat) (s : State) : (settingEffect x v s).settings = s.settings := by
  cases x
  case enable n =>
    have off : (disableLane n s).settings = s.settings := (disableLane_moves (n := n) .refl).frame.settings
    have on : (enableLane n s).settings = s.settings := (enableLane_moves (n := n) .refl).frame.settings
    simp only [settingEffect]
    split
    · split
      · rfl
      · exact off
    · split
      · exact on
      · rfl
  case lossCount =>
    simp only [settingEffect]
    split <;> rfl
  all_goals rfl

/-- R18, R176: CONFIGURE of one lane's enable. -/
theorem execConfigure_enable (takes : s.port.takes) (tag : Byte) (n : Lane) (value : BitVec 16) :
    exec (.configure tag [{ id := enableId n, value }]) s =
      .next (placeReply
        { tag, code := 0x02, status := .ok
          payload := [enableId n, 0, BitVec.ofNat 8 ((SettingId.enable n).taken value.toNat)] }
        { settingEffect (.enable n) ((SettingId.enable n).taken value.toNat) s with
          settings := { s.settings with
            enabled := s.settings.enabled.set n ((SettingId.enable n).taken value.toNat != 0) } }) := by
  have named := settingOf_enableId n
  have known : NamesSetting { id := enableId n, value } := (settingOf_isSome_iff _).mp (by rw [named]; rfl)
  have taken : pairTaken { id := enableId n, value } =
      [enableId n, 0, BitVec.ofNat 8 ((SettingId.enable n).taken value.toNat)] := by
    have small : (SettingId.enable n).taken value.toNat / 256 = 0 := by
      simp only [SettingId.taken]
      split <;> rfl
    rw [pairTaken, code_of_settingOf named, ← taken_eq, small]
    rfl
  refine (congrArg Host.Outcome.next (accept_takes takes (takeConfigure tag _))).trans ?_
  rw [takeConfigure_takes ⟨List.cons_ne_nil _ _, by simp, by simpa using known⟩, List.flatMap_cons, List.flatMap_nil,
    List.append_nil, taken, List.foldl_cons, List.foldl_nil, applyPair_eq named, settingEffect_settings]
  rfl

/-- R18: a lane out of the powered states enters OFF. -/
theorem disableLane_eq (unpowered : (s.laneState n).powered = false) :
    disableLane n s =
      toldNaming s (raise (stateNotice n .off .disabled)
        { s.withColumn n
            { s.col n with
              ctl := { (s.col n).ctl with
                state := .off, settle := .stopped, grantWindow := .stopped, hold := .stopped
                grantPending := none, rewalkWaiting := false, fault := .none } } with
          converter := s.converter.withdraw n
          table := s.table.remove ((s.table.ofLane n).map (·.key))
          port := { s.port with
            notices := rosterIn n 0 ((s.table.ofLane n).map (·.key)).length 0 s.port.notices } }) := by
  have moves : LaneMoves n s ((removeLane n (withdrawJobs n (s.modCtl n LaneCtl.disabled))).modCtl n fun c =>
      { c with fault := .none }) := modCtl_moves (removeLane_moves (withdrawJobs_moves (modCtl_moves .refl _))) _
  have left : disableLane n s =
      transition n .off .disabled none ((removeLane n (withdrawJobs n (s.modCtl n LaneCtl.disabled))).modCtl n fun c =>
        { c with fault := .none }) := by
    simp only [disableLane, unpowered, Bool.false_eq_true, if_false]
    rfl
  rw [left, transition_moved moves
    (by simp [State.laneState, removeLane, removeCounted, raiseRoster_eq, withdrawJobs, LaneCtl.disabled])]
  simp [removeLane, removeCounted, raiseRoster_eq, withdrawJobs, updates_eq, LaneCtl.disabled]
  rfl

/-- R13: what leaving power changes, block by block. -/
theorem leavePowered_blocks (n : Lane) (s : State) :
    leavePowered n s =
      ((s.withColumn n (s.col n).unpowered).modConverter fun c => c.withdraw n).modPort fun p =>
        { p with
          owed := if (s.col n).slot = .free then p.owed else p.owed.set n none
          replies := p.replies ++ (s.col n).goneReplies (p.owed.get n)
          notices := (s.col n).abortNotices n p.notices } := leavePowered_eq n s

theorem modConverter_withdraw (n : Lane) (s : State) :
    ((s.modConverter fun c => c.withdraw n).modConverter fun c => c.withdraw n) = s.modConverter fun c => c.withdraw n :=
  congrArg (fun c => { s with converter := c }) (withdraw_withdraw _ _)

/-- R13, R18: a lane in a powered state leaves power and enters OFF. -/
theorem disableLane_powered (powered : (s.laneState n).powered = true) :
    disableLane n s =
      toldNaming s (raise (stateNotice n .off .disabled)
        { s.withColumn n
            { (s.col n).unpowered with
              ctl := { (s.col n).unpowered.ctl with
                state := .off, settle := .stopped, grantWindow := .stopped, hold := .stopped
                grantPending := none, fault := .none } } with
          converter := s.converter.withdraw n
          table := s.table.remove ((s.table.ofLane n).map (·.key))
          port := { s.port with
            owed := if (s.col n).slot = .free then s.port.owed else s.port.owed.set n none
            replies := s.port.replies ++ (s.col n).goneReplies (s.port.owed.get n)
            notices := rosterIn n 0 ((s.table.ofLane n).map (·.key)).length 0
              ((s.col n).abortNotices n s.port.notices) } }) := by
  have moves : LaneMoves n s
      ((removeLane n (leavePowered n (withdrawJobs n (s.modCtl n LaneCtl.disabled)))).modCtl n fun c =>
        { c with fault := .none }) :=
    modCtl_moves (removeLane_moves (leavePowered_moves (withdrawJobs_moves (modCtl_moves .refl _)))) _
  have left : disableLane n s =
      transition n .off .disabled none
        ((removeLane n (leavePowered n (withdrawJobs n (s.modCtl n LaneCtl.disabled)))).modCtl n fun c =>
          { c with fault := .none }) := by
    simp only [disableLane, powered, if_true]
    rfl
  have unpowered : (Column.unpowered { s.col n with ctl := (s.col n).ctl.disabled }) =
      { (s.col n).unpowered with
        ctl := { (s.col n).unpowered.ctl with
          settle := .stopped, grantWindow := .stopped, hold := .stopped, grantPending := none } } := rfl
  rw [left, transition_moved moves]
  · simp [removeLane, removeCounted, raiseRoster_eq, leavePowered_blocks, withdrawJobs, updates_eq,
      modConverter_withdraw, unpowered]
    rfl
  · simp [State.laneState, removeLane, removeCounted, raiseRoster_eq, leavePowered_blocks, withdrawJobs, unpowered]
    rfl

theorem enableLane_opened (reading : (s.col n).ctl.reading = .opened) :
    enableLane n s =
      toldNaming s (raise (stateNotice n .empty .enabled)
        (s.withColumn n { s.col n with ctl := { (s.col n).ctl with state := .empty } })) := by
  have told := transition_moved (s := s) (n := n) .refl rfl .empty .enabled none
  unfold enableLane
  rw [if_neg (by rw [reading]; exact Reading.noConfusion)]
  exact told

theorem anyBringingUp_withColumn {c : Column} (same : c.ctl.state.bringingUp = (s.laneState n).bringingUp) :
    (s.withColumn n c).anyBringingUp = s.anyBringingUp := by
  rw [Bool.eq_iff_iff, anyBringingUp_iff, anyBringingUp_iff]
  refine exists_congr fun m => ?_
  by_cases e : m = n
  · subst e
    simp [State.laneState] at same ⊢
    rw [same]
  · simp [State.laneState, e]

theorem readySet_withColumn {c : Column} (same : c.ctl.state.isReady = (s.laneState n).isReady) :
    (s.withColumn n c).readySet = s.readySet :=
  PerLane.ext_get fun m => by
    by_cases e : m = n
    · subst e
      simpa [State.readySet, State.laneState, State.col, State.withColumn] using same
    · simp [State.readySet, State.withColumn, e]

/-- R3, R18: a lane that is enabled while its contact reads MATED goes on to SETTLING; OFF and EMPTY are one to the naming
unit. -/
theorem enableLane_mated (off : s.laneState n = .off) (reading : (s.col n).ctl.reading = .mated) :
    enableLane n s =
      toldNaming s (raise (stateNotice n .settling .mated) (raise (stateNotice n .empty .enabled)
        (s.withColumn n
          { s.col n with
            ctl := { (s.col n).ctl with state := .settling, settle := .running s.settings.mateSettle }
            roll := { (s.col n).roll with used := 0 } }))) := by
  let u := s.withColumn n { s.col n with ctl := { (s.col n).ctl with state := .empty } }
  have hu : u = s.withColumn n { s.col n with ctl := { (s.col n).ctl with state := .empty } } := rfl
  have up : u.anyBringingUp = s.anyBringingUp := anyBringingUp_withColumn (by rw [off]; rfl)
  have ready : u.readySet = s.readySet := readySet_withColumn (by rw [off]; rfl)
  have untold : transition n .empty .enabled none s = raise (stateNotice n .empty .enabled) u := by
    have none : causedByTransition s u = false := by simp [causedByTransition, up, ready]
    rw [transition_moved .refl rfl, toldNaming, if_neg]
    · rfl
    · exact Bool.not_eq_true _ ▸ none
  have same (t : State) : causedByTransition (raise (stateNotice n .empty .enabled) u) t = causedByTransition s t := by
    have raised : (raise (stateNotice n .empty .enabled) u).anyBringingUp = u.anyBringingUp ∧
        (raise (stateNotice n .empty .enabled) u).readySet = u.readySet := ⟨rfl, rfl⟩
    simp only [causedByTransition, raised, up, ready]
  rw [enableLane, if_pos reading, untold, enterSettling_told .refl rfl, toldNaming, toldNaming, same]
  simp [hu]

end

/-- Settles O51. -/
theorem laneEnableIsWritten : Obligations.LaneEnableIsWritten := by
  unfold Obligations.LaneEnableIsWritten
  intro tag n on s takes nonzero id stored replied turn gone
  have zero : (SettingId.enable n).taken (0 : BitVec 16).toNat = 0 := rfl
  have one : (SettingId.enable n).taken on.toNat = 1 := if_neg fun h => nonzero (BitVec.eq_of_toNat_eq h)
  have turnOff := execConfigure_enable takes tag n 0
  have turnOn := execConfigure_enable takes tag n on
  rw [zero] at turnOff
  rw [one] at turnOn
  refine ⟨fun off => turnOff.trans ?_, fun notOff => turnOn.trans ?_, fun notOff unpowered => turnOff.trans ?_,
    fun notOff powered => turnOff.trans ?_, fun off opened => turnOn.trans ?_, fun off mated => turnOn.trans ?_⟩
  · simp only [settingEffect, off, if_true]
    rfl
  · simp only [settingEffect, notOff, if_false]
    rfl
  · simp only [settingEffect, notOff, if_true, if_false, disableLane_eq unpowered]
    rfl
  · simp only [settingEffect, notOff, if_true, if_false, disableLane_powered powered]
    rfl
  · simp only [settingEffect, off, if_true, enableLane_opened opened]
    rfl
  · simp only [settingEffect, off, if_true, enableLane_mated off mated]
    rfl

end Sys2Proof.Machine
end

section
/-!
What a reset comes up with: the lanes whose contact reads MATED, RESTARTED and their notices (R21, R22, R179, R180).
-/

namespace Sys2Proof.Machine

/-! ## Coming up -/

/-- R21, R22: whether a lane enters SETTLING as the part comes up. -/
def State.settles (s : State) (n : Lane) : Bool := s.laneState n == .empty && (s.col n).ctl.reading == .mated

/-- R3: a column whose lane has entered SETTLING. -/
def Column.settled (c : Column) (g : Settings) : Column :=
  { c with
    ctl := { c.ctl with state := .settling, settle := .running g.mateSettle }
    roll := { c.roll with used := 0 } }

theorem raiseIn_new {x : Notice} {slots : List NoticeSlot} (h : x.key ∉ slots.map fun y => y.notice.key) :
    raiseIn x slots = slots ++ [{ notice := x, updated := false }] := by
  induction slots with
  | nil => rfl
  | cons y ys ih =>
    simp only [List.map_cons, List.mem_cons, not_or] at h
    obtain ⟨other, rest⟩ := h
    rw [raiseIn, if_neg (Ne.symm other), ih rest, List.cons_append]

section

variable {s : State} {n : Lane}

theorem settleIfMated_stays (h : s.settles n = false) : settleIfMated s n = s := by
  refine if_neg fun ⟨empty, mated⟩ => ?_
  simp [State.settles, empty, mated] at h

/-- A lane that comes up mated is no end of a bring-up, and changes nothing of the READY set. -/
theorem settleIfMated_settles (h : s.settles n = true) :
    settleIfMated s n = raise (stateNotice n .settling .mated) (s.withColumn n ((s.col n).settled s.settings)) := by
  simp only [State.settles, Bool.and_eq_true, beq_iff_eq] at h
  obtain ⟨empty, mated⟩ := h
  have up : (s.withColumn n ((s.col n).settled s.settings)).anyBringingUp = true :=
    (anyBringingUp_iff _).mpr ⟨n, by rw [State.laneState, withColumn_col]; rfl⟩
  have ready : (s.withColumn n ((s.col n).settled s.settings)).readySet = s.readySet :=
    readySet_withColumn (by rw [empty]; rfl)
  have untold : causedByTransition s (s.withColumn n ((s.col n).settled s.settings)) = false := by
    simp [causedByTransition, up, ready]
  have settled : settleIfMated s n = enterSettling n .mated s := if_pos ⟨empty, mated⟩
  rw [settled, enterSettling_told .refl rfl, toldNaming, if_neg]
  · rfl
  · exact Bool.not_eq_true _ ▸ untold

end

/-- R21, R22: what coming up makes of a state: lanes that settle, and their notices in lane order. -/
structure Settled (lanes : List Lane) (s t : State) : Prop where
  same : t = { s with columns := t.columns, port := { s.port with notices := t.port.notices } }
  columns : ∀ n, t.col n = if n ∈ lanes ∧ s.settles n = true then (s.col n).settled s.settings else s.col n
  notices : (t.port.notices.map fun y => y.notice) =
    (s.port.notices.map fun y => y.notice) ++ (lanes.filter s.settles).map fun n => stateNotice n .settling .mated

theorem settled_foldl (lanes : List Lane) (distinct : lanes.Nodup) (s : State)
    (fresh : ∀ n ∈ lanes, .laneState n ∉ s.port.notices.map fun y => y.notice.key) :
    Settled lanes s (lanes.foldl settleIfMated s) := by
  induction lanes generalizing s with
  | nil => exact ⟨rfl, by simp, by simp⟩
  | cons l ls ih =>
    obtain ⟨notIn, distinct⟩ := List.nodup_cons.mp distinct
    rw [List.foldl_cons]
    cases settles : s.settles l with
    | false =>
      rw [settleIfMated_stays settles]
      obtain ⟨same, columns, notices⟩ := ih distinct s fun n mem => fresh n (List.mem_cons_of_mem _ mem)
      refine ⟨same, fun n => ?_, ?_⟩
      · by_cases e : n = l
        · subst e
          rw [columns n, if_neg (by simp [notIn]), if_neg (by simp [settles])]
        · rw [columns n]
          simp [e]
      · rw [notices, List.filter_cons_of_neg (by simp [settles])]
    | true =>
      rw [settleIfMated_settles settles]
      let u := raise (stateNotice l .settling .mated) (s.withColumn l ((s.col l).settled s.settings))
      have hu : u = raise (stateNotice l .settling .mated) (s.withColumn l ((s.col l).settled s.settings)) := rfl
      have raised : u.port.notices = s.port.notices ++ [{ notice := stateNotice l .settling .mated, updated := false }] :=
        raiseIn_new (fresh l List.mem_cons_self)
      have col (n : Lane) (e : n ≠ l) : u.col n = s.col n := by simp [hu, e]
      have settlesSame (n : Lane) (e : n ≠ l) : u.settles n = s.settles n := by
        simp only [State.settles, State.laneState, col n e]
      obtain ⟨same, columns, notices⟩ := ih distinct u fun n mem => by
        rw [raised, List.map_append, List.mem_append, not_or]
        refine ⟨fresh n (List.mem_cons_of_mem _ mem), ?_⟩
        have other : n ≠ l := fun e => notIn (e ▸ mem)
        simpa [stateNotice, Notice.key] using other
      refine ⟨?_, fun n => ?_, ?_⟩
      · rw [same]
        rfl
      · by_cases e : n = l
        · subst e
          rw [columns n, if_neg (by simp [notIn]), if_pos ⟨List.mem_cons_self, settles⟩]
          simp [hu]
        · rw [columns n, col n e, settlesSame n e]
          simp [e, hu]
      · have filtered : ls.filter u.settles = ls.filter s.settles :=
          List.filter_congr fun n mem => settlesSame n fun e => notIn (e ▸ mem)
        rw [notices, raised, filtered, List.filter_cons_of_pos settles, List.map_append, List.append_assoc]
        rfl

/-- R179, R180: the part comes up with no notice waiting. -/
theorem comeUp_settled (cause : ResetCause) {s : State} (quiet : s.port.notices = []) :
    Settled Lane.all (raise (.restarted cause) s) (comeUp cause s) := by
  refine settled_foldl Lane.all (by decide) _ fun n _ => ?_
  simp [raise, State.modPort, quiet, raiseIn, Notice.key]

theorem comeUp_notices (cause : ResetCause) {s : State} (quiet : s.port.notices = []) :
    ((comeUp cause s).port.notices.map fun y => y.notice) =
      .restarted cause :: (Lane.all.filter s.settles).map fun n => stateNotice n .settling .mated := by
  rw [(comeUp_settled cause quiet).notices]
  simp only [raise, State.modPort, quiet, raiseIn]
  rfl

theorem comeUp_col (cause : ResetCause) {s : State} (quiet : s.port.notices = []) (n : Lane) :
    (comeUp cause s).col n = if s.settles n = true then (s.col n).settled s.settings else s.col n := by
  have all : n ∈ Lane.all := by cases n <;> decide
  rw [(comeUp_settled cause quiet).columns n]
  simp only [all, true_and]
  rfl

theorem comeUp_same (cause : ResetCause) {s : State} (quiet : s.port.notices = []) :
    comeUp cause s =
      { s with
        columns := (comeUp cause s).columns
        port := { s.port with notices := (comeUp cause s).port.notices } } :=
  (comeUp_settled cause quiet).same

/-! ## Hardware reset (R180) -/

/-- R21: a lane's column as the part comes up from a hardware reset. -/
theorem afterReset_settled (contact : Contact) :
    (if contact.reads = .mated then (Column.afterReset contact).settled Settings.defaults else Column.afterReset contact) =
      { Column.reset with
        ctl := { LaneCtl.reset with
          reading := contact.reads
          state := if contact.reads = .mated then .settling else .empty
          settle := if contact.reads = .mated then .running 50 else .stopped } } := by
  split <;> rfl

theorem cold_settles (s : State) (contacts : PerLane Contact) (p : Port) (n : Lane) :
    (s.cold contacts p).settles n = ((contacts.get n).reads == .mated) := by
  cases n <;> rfl

theorem cold_col (s : State) (contacts : PerLane Contact) (p : Port) (n : Lane) :
    (s.cold contacts p).col n = Column.afterReset (contacts.get n) := by
  cases n <;> rfl

/-- Settles O59: every moment of the pin, high or low before it. -/
theorem hardwareResetSetsDefaults : Obligations.HardwareResetSetsDefaults := by
  unfold Obligations.HardwareResetSetsDefaults
  intro contacts csnLow s cameUp
  have comes (moment : ResetMoment) (window : Window) (cause : ResetCause)
      (h : exec (.hardwareReset moment contacts csnLow) s =
        .next (comeUp cause (s.cold contacts (Port.blank window cause)))) : cameUp moment window cause := by
    have quiet : (s.cold contacts (Port.blank window cause)).port.notices = [] := rfl
    have same := comeUp_same cause quiet
    refine ⟨_, h, ?_, ?_, ?_, ?_, ?_, ?_, ?_, ?_, fun n => ?_⟩
    · rw [comeUp_notices cause quiet, show (s.cold contacts (Port.blank window cause)).settles = _ from
        funext (cold_settles s contacts _)]
    · exact congrArg State.port same
    · exact congrArg State.settings same
    · exact (congrArg State.pending same).trans rfl
    · exact congrArg State.table same
    · exact congrArg State.catalogue same
    · exact congrArg State.converter same
    · exact congrArg State.naming same
    · rw [comeUp_col cause quiet, cold_settles, cold_col, ← afterReset_settled]
      simp only [beq_iff_eq]
      rfl
  refine ⟨comes .powerOn _ _ rfl, fun low => ⟨comes .released _ _ ?_, ?_⟩, fun high => ⟨?_, ?_⟩⟩
  · exact congrArg Host.Outcome.next (if_pos low)
  · exact congrArg Host.Outcome.next (if_pos low)
  · exact congrArg Host.Outcome.next (if_neg (by rw [high]; exact Bool.false_ne_true))
  · have held : holdReset s =
        s.cold (PerLane.fill .bare) { Port.blank s.port.window.heldBy s.port.resetCause with resetLow := true } :=
      if_neg (by rw [high]; exact Bool.false_ne_true)
    have window : s.port.window.heldBy = if s.port.window = .closed then .closed else .ignored := by
      cases s.port.window <;> rfl
    refine (congrArg Host.Outcome.next held).trans ?_
    rw [window]
    rfl

/-! ## RESTART (R22, R179) -/

theorem restarted_col (s : State) (n : Lane) : s.restarted.col n = (s.col n).restarted := by cases n <;> rfl

theorem restarted_settles (s : State) (n : Lane) :
    s.restarted.settles n = (s.laneState n != .off && (s.col n).ctl.reading == .mated) := by
  simp only [State.settles, State.laneState, restarted_col, Column.restarted, LaneCtl.restarted]
  cases state : (s.col n).ctl.state <;> simp [LaneCtl.reset, state]

/-- R22: a lane's column as the part comes up from a RESTART. -/
theorem restarted_settled (s : State) (n : Lane) :
    (if (s.laneState n != .off && (s.col n).ctl.reading == .mated) = true then (s.col n).restarted.settled s.settings
      else (s.col n).restarted) =
      { Column.reset with
        ctl :=
          if s.laneState n = .off then (s.col n).ctl
          else
            { LaneCtl.reset with
              reading := (s.col n).ctl.reading
              state := if (s.col n).ctl.reading = .mated then .settling else .empty
              settle := if (s.col n).ctl.reading = .mated then .running s.settings.mateSettle else .stopped } } := by
  have other (h : s.laneState n ≠ .off) :
      (s.col n).ctl.restarted = { LaneCtl.reset with reading := (s.col n).ctl.reading } := by
    simp only [State.laneState] at h
    unfold LaneCtl.restarted
    split <;> first | rfl | contradiction
  by_cases off : s.laneState n = .off
  · have kept : (s.col n).ctl.restarted = (s.col n).ctl := by
      simp only [LaneCtl.restarted, show (s.col n).ctl.state = .off from off]
    simp [off, Column.restarted, kept]
  · by_cases mated : (s.col n).ctl.reading = .mated
    · simp [off, mated, Column.restarted, Column.settled, other off]
      rfl
    · simp [off, mated, Column.restarted, other off]
      exact ⟨rfl, rfl⟩

/-- Settles O60. -/
theorem restartKeepsSettings : Obligations.RestartKeepsSettings := by
  unfold Obligations.RestartKeepsSettings
  intro tag s takes
  have quiet : s.restarted.port.notices = [] := rfl
  have same := comeUp_same .restartRequest quiet
  have notices := comeUp_notices .restartRequest quiet
  have columns := comeUp_col .restartRequest quiet
  have taken : exec (.restart tag) s = .next (placeReply { tag, code := 0x0E, status := .ok, payload := [] }
      (comeUp .restartRequest s.restarted)) := congrArg Host.Outcome.next (accept_takes takes (takeRestart tag))
  generalize comeUp .restartRequest s.restarted = t at same notices columns taken
  refine ⟨_, taken, ?_⟩
  rw [same]
  refine ⟨rfl, rfl, rfl, rfl, rfl, rfl, rfl, rfl, rfl, rfl, rfl, rfl, ?_, fun n => ?_⟩
  · refine notices.trans ?_
    rw [show s.restarted.settles = _ from funext (restarted_settles s)]
  · refine (columns n).trans ?_
    rw [restarted_settles, restarted_col]
    exact restarted_settled s n

end Sys2Proof.Machine
end

section
/-!
NAME_NOW and what a naming pass decides and writes (R152, R154, R156 to R159, R162 to R167).
-/

namespace Sys2Proof.Machine

/-! ## What a pass writes (R162, R164, R165) -/

theorem readySet_get (s : State) (n : Lane) : s.readySet.get n = true ↔ s.laneState n = .ready := by
  simp [State.readySet, State.laneState, State.col, LaneState.isReady]

/-- R156: whether an entry stands in the view of a pass. -/
theorem inView_iff (s : State) (e : Entry) :
    (e.bound && s.readySet.get e.key.lane) = true ↔ e.state ≠ .away ∧ s.laneState e.key.lane = .ready := by
  rw [Bool.and_eq_true, bound_iff, readySet_get]

theorem mem_namingView {s : State} {e : Entry} : e ∈ s.namingView ↔ s.views e := by
  rw [State.namingView, List.mem_filter, inView_iff]
  rfl

/-- R165: the generation wraps from 65535 to 0. -/
theorem nextGeneration_eq {g : Nat} (h : g ≤ 65535) : nextGeneration g = if g = 65535 then 0 else g + 1 := by
  simp only [nextGeneration, Config.wordCount]
  split <;> omega

/-- Settles O58. -/
theorem nameNowRunsPass : Obligations.NameNowRunsPass := by
  unfold Obligations.NameNowRunsPass
  intro tag s takes replied generation grown d decimal standard named
  have taken : exec (.nameNow tag) s = .next (takeNameNow tag s) :=
    congrArg Host.Outcome.next (accept_takes takes (takeNameNow tag))
  rw [taken]
  refine ⟨fun up => ?_, fun rest small => ?_⟩
  · simp only [takeNameNow, passDue, up, if_true]
    rfl
  · have next : nextGeneration s.naming.record.generation = grown := nextGeneration_eq small
    have name (e : Entry) : e.named d.tool d.slots d.filled = named e := by
      simp only [named, Entry.named]
      cases filled : d.filled.find? fun f => f.key == e.key with
      | none => rfl
      | some f =>
        cases slot : d.slots[f.index - 1]? with
        | none =>
          simp only [slot]
          rfl
        | some x => simp only [slot]
    have names : s.writeNames s.decision =
        s.modTable fun t => { t with
          entries := t.entries.map fun e => if e.state ≠ .away ∧ s.laneState e.key.lane = .ready then named e else e } := by
      simp only [State.writeNames, inView_iff]
      exact congrArg (fun f => s.modTable fun t => { t with
        entries := t.entries.map fun e => if e.state ≠ .away ∧ s.laneState e.key.lane = .ready then f e else e })
        (funext name)
    simp only [takeNameNow, passDue, rest, Bool.false_eq_true, if_false, namingPass, next, names]
    rfl

end Sys2Proof.Machine
end

section
/-!
What a naming pass decides: the tool it selects, its class check, and what it leaves unfilled (R156 to R159, R163).
-/

namespace Sys2Proof.Machine

/-! ## A tool's slots with their indices (R144) -/

/-- R144: the indices of a tool's slots are 1 and up. -/
theorem indexed_fst (t : Tool) : t.indexed.map Prod.fst = (List.range t.slots.length).map (· + 1) := by
  rw [Tool.indexed, List.map_fst_zip]
  simp

theorem mem_indexed {t : Tool} {i : Nat} {x : Slot} : (i, x) ∈ t.indexed ↔ 1 ≤ i ∧ t.slots[i - 1]? = some x := by
  have zip : t.indexed = t.slots.zipIdx.map fun p => (p.2 + 1, p.1) := by
    refine List.ext_getElem (by simp [Tool.indexed]) fun j hj hk => ?_
    simp [Tool.indexed]
  rw [zip, List.mem_map]
  constructor
  · rintro ⟨⟨y, j⟩, mem, eq⟩
    obtain ⟨rfl, rfl⟩ := Prod.mk.inj eq
    exact ⟨Nat.le_add_left _ _, by simpa using List.mem_zipIdx_iff_getElem?.mp mem⟩
  · rintro ⟨low, slot⟩
    exact ⟨(x, i - 1), List.mem_zipIdx_iff_getElem?.mpr slot, by simp; omega⟩

theorem indexed_ascending (t : Tool) : t.indexed.Pairwise fun p q => p.1 < q.1 := by
  have range : ((List.range t.slots.length).map (· + 1)).Pairwise (· < ·) :=
    List.pairwise_map.mpr (List.pairwise_lt_range.imp fun h => Nat.succ_lt_succ h)
  rw [← indexed_fst, List.pairwise_map] at range
  exact range

/-! ## What is left unfilled (R163) -/

theorem unmatchedRequired_ascending (t : Tool) (filled : List Filled) : (unmatchedRequired t filled).Pairwise (· < ·) :=
  List.pairwise_map.mpr ((indexed_ascending t).filter _)

theorem mem_unmatchedRequired {t : Tool} {filled : List Filled} {i : Nat} :
    i ∈ unmatchedRequired t filled ↔
      1 ≤ i ∧ ∃ x, t.slots[i - 1]? = some x ∧ x.required = true ∧ ∀ f ∈ filled, f.index ≠ i := by
  simp only [unmatchedRequired, List.mem_map, List.mem_filter, Prod.exists, mem_indexed, Bool.and_eq_true,
    Bool.not_eq_true', List.any_eq_false, beq_iff_eq, exists_and_right, exists_eq_right]
  constructor
  · rintro ⟨x, ⟨low, slot⟩, required, free⟩
    exact ⟨low, x, slot, required, free⟩
  · rintro ⟨low, x, slot, required, free⟩
    exact ⟨x, ⟨low, slot⟩, required, free⟩

/-! ## The selection of a tool (R157, R158) -/

section

variable {s : State}

theorem anyReady_iff : s.readySet.toList.any id = true ↔ ∃ n, s.laneState n = .ready := by
  simp only [List.any_eq_true, PerLane.mem_toList, id]
  constructor
  · rintro ⟨_, ⟨n, rfl⟩, ready⟩
    exact ⟨n, (readySet_get s n).mp ready⟩
  · rintro ⟨n, ready⟩
    exact ⟨_, ⟨n, rfl⟩, (readySet_get s n).mpr ready⟩

/-- R158: a defined tool whose key is found in the view. -/
theorem mem_keyedTools {t : Tool} :
    t ∈ keyedTools s.catalogue.tools s.namingView ↔ t ∈ s.catalogue.tools ∧ ∃ x, s.views x ∧ x.identity = t.key := by
  simp only [keyedTools, List.mem_filter, List.any_eq_true, mem_namingView, beq_iff_eq]

theorem tools_nodup {c : Catalogue} (h : CatalogueInv c) : c.tools.Nodup :=
  h.ascending.imp fun less same => absurd (congrArg Tool.number same) (Nat.ne_of_lt less)

theorem decision_detached (h : ∀ n, s.laneState n ≠ .ready) : s.decision = .unfilled .detached 0 none := by
  have rest : s.readySet.toList.any id = false := by
    rw [← Bool.not_eq_true, anyReady_iff]
    exact fun ⟨n, ready⟩ => h n ready
  simp only [State.decision, rest, Bool.false_eq_true, if_false]

variable (ready : ∃ n, s.laneState n = .ready)
include ready

theorem decision_noTool (h : ∀ u ∈ s.catalogue.tools, ¬∃ x, s.views x ∧ x.identity = u.key) :
    s.decision = .unfilled .noTool 0 none := by
  have nobody : keyedTools s.catalogue.tools s.namingView = [] :=
    List.eq_nil_iff_forall_not_mem.mpr fun u mem => by
      obtain ⟨defined, keyed⟩ := mem_keyedTools.mp mem
      exact h u defined keyed
  simp only [State.decision, anyReady_iff.mpr ready, if_true, nobody]

theorem decision_ambiguous {u v : Tool} (hu : u ∈ keyedTools s.catalogue.tools s.namingView)
    (hv : v ∈ keyedTools s.catalogue.tools s.namingView) (differ : u ≠ v) : s.decision = .unfilled .ambiguous 0 none := by
  simp only [State.decision, anyReady_iff.mpr ready, if_true]
  split
  · rename_i none
    exact absurd (none ▸ hu) List.not_mem_nil
  · rename_i t one
    rw [one, List.mem_singleton] at hu hv
    exact absurd (hu.trans hv.symm) differ
  · rfl

theorem decision_one {t : Tool} (one : keyedTools s.catalogue.tools s.namingView = [t]) :
    s.decision =
      if s.classesPass t then
        .ofMatch t ((s.namingView.find? fun e => e.identity == t.key).map (·.key)) s.namingView
      else .unfilled .mismatch t.number ((s.namingView.find? fun e => e.identity == t.key).map (·.key)) := by
  simp only [State.decision, anyReady_iff.mpr ready, if_true, one]

end

/-- R158: with one keyed tool, the list of them. -/
theorem keyedTools_one {s : State} (inv : CatalogueInv s.catalogue) {t : Tool} (defined : t ∈ s.catalogue.tools)
    (keyed : ∃ x, s.views x ∧ x.identity = t.key)
    (only : ∀ u ∈ s.catalogue.tools, (∃ x, s.views x ∧ x.identity = u.key) → u = t) :
    keyedTools s.catalogue.tools s.namingView = [t] := by
  have mem : ∀ u, u ∈ keyedTools s.catalogue.tools s.namingView ↔ u = t := fun u => by
    rw [mem_keyedTools]
    exact ⟨fun ⟨hu, ku⟩ => only u hu ku, fun e => e ▸ ⟨defined, keyed⟩⟩
  exact List.perm_singleton.mp ((List.perm_ext_iff_of_nodup ((tools_nodup inv).filter _) (List.pairwise_singleton _ t)).mpr
    fun u => (mem u).trans List.mem_singleton.symm)

/-- R130, R158: the first entry of the view with an identity, in reporting order. -/
theorem find_first {s : State} (inv : TableInv s) {e : Entry} {key : Identity} (viewed : s.views e)
    (found : e.identity = key) (first : ∀ x, s.views x → x.identity = key → x = e ∨ e.key.before x.key = true) :
    (s.namingView.find? fun e => e.identity == key) = some e := by
  have ordered : s.namingView.Pairwise fun a b => a.key.before b.key = true := inv.ordered.filter _
  have some : (s.namingView.find? fun e => e.identity == key).isSome = true :=
    List.find?_isSome.mpr ⟨e, mem_namingView.mpr viewed, by simpa using found⟩
  obtain ⟨x, found'⟩ := Option.isSome_iff_exists.mp some
  obtain ⟨identity, before, after, view, none⟩ := List.find?_eq_some_iff_append.mp found'
  rw [found']
  have viewedX : s.views x := mem_namingView.mp (by rw [view]; simp)
  obtain same | ahead := first x viewedX (by simpa using identity)
  · rw [same]
  · have mem : e ∈ before ++ x :: after := view ▸ mem_namingView.mpr viewed
    rw [view] at ordered
    obtain early | rfl | late : e ∈ before ∨ e = x ∨ e ∈ after := by simpa using mem
    · exact absurd found (by simpa using none e early)
    · rfl
    · have behind := (List.pairwise_cons.mp (List.pairwise_append.mp ordered).2.1).1 e late
      exact absurd (before_trans ahead behind) (before_irrefl _)

/-! ## The class check (R159) -/

/-- R159: whether a READY lane fails a tool's expectation. -/
def State.failsLane (s : State) (t : Tool) (n : Lane) : Prop :=
  s.laneState n = .ready ∧
    (t.expects.get n = .nothing ∨ ∃ cls, t.expects.get n = .ofClass cls ∧ (s.col n).ctl.record.cls ≠ some cls)

theorem passes_iff (s : State) (t : Tool) (n : Lane) :
    (t.expects.get n).passes (s.readySet.get n) (s.col n).ctl.record.cls = true ↔ ¬s.failsLane t n := by
  have ready := readySet_get s n
  unfold State.failsLane Expectation.passes
  cases t.expects.get n with
  | any => simp
  | nothing => simp [← ready]
  | ofClass cls =>
    simp [← ready]
    cases s.readySet.get n <;> simp

theorem classesPass_iff (s : State) (t : Tool) : s.classesPass t = true ↔ ∀ n, ¬s.failsLane t n := by
  simp only [State.classesPass, List.all_eq_true, passes_iff]
  exact ⟨fun h n => h n (by cases n <;> decide), fun h n _ => h n⟩

/-- Settles O56. -/
theorem namingPassSelectsTool : Obligations.NamingPassSelectsTool := by
  unfold Obligations.NamingPassSelectsTool
  intro t e s tables catalogue d keyed nothing ends fails
  have unfilled {o : MatchOutcome} (h : d = .unfilled o 0 none) : ends o := by
    simp only [ends, nothing, h]
    exact ⟨rfl, rfl, rfl, rfl, rfl, rfl⟩
  refine ⟨fun rest => unfilled (decision_detached rest), fun ready => ⟨fun noTool => unfilled (decision_noTool ready noTool),
    fun u v hu hv ku kv differ => unfilled (decision_ambiguous ready (mem_keyedTools.mpr ⟨hu, ku⟩)
      (mem_keyedTools.mpr ⟨hv, kv⟩) differ), fun defined only viewed found first => ?_⟩⟩
  have one := decision_one ready (keyedTools_one catalogue defined ⟨e, viewed, found⟩ only)
  rw [find_first tables viewed found first, Option.map_some] at one
  by_cases pass : s.classesPass t = true
  · have matched : d = .ofMatch t (some e.key) s.namingView := one.trans (if_pos pass)
    have fine := (classesPass_iff s t).mp pass
    rw [matched]
    refine ⟨rfl, rfl, fun ⟨n, failed⟩ => absurd failed (fine n), fun _ => ⟨rfl, rfl, unmatchedRequired_ascending _ _,
      fun i => mem_unmatchedRequired, ?_, _, ?_, rfl, fun x => ?_⟩⟩
    · simp [Decision.ofMatch]
    · have distinct : s.table.entries.Nodup :=
        tables.ordered.imp fun {a b} ahead (same : a = b) => before_irrefl b.key (same ▸ ahead)
      exact (distinct.filter _).filter _
    · rw [List.mem_filter, mem_namingView]
      simp [Decision.ofMatch]
  · have mismatch : d = .unfilled .mismatch t.number (some e.key) := one.trans (if_neg pass)
    simp only [nothing, mismatch]
    exact ⟨rfl, rfl, fun _ => ⟨rfl, rfl, rfl, rfl⟩, fun fine => absurd ((classesPass_iff s t).mpr fine) pass⟩

end Sys2Proof.Machine
end

section
/-!
Which entry fills which slot in a naming pass (R156, R160 to R162).
-/

namespace Sys2Proof.Machine

/-! ## The order of the matching (R160) -/

/-- R160: a slot's place in the rounds: by depth, the pinned before the unpinned. -/
def Slot.rank (x : Slot) : Nat := 2 * x.depth + if x.pinned then 0 else 1

/-- R160: slots of a tool with their indices, in an order that the rounds keep, each once. -/
structure Arranged (t : Tool) (l : List (Nat × Slot)) : Prop where
  mem : ∀ p ∈ l, p ∈ t.indexed
  order : l.Pairwise fun p q => p.1 ≠ q.1 ∧ p.2.rank ≤ q.2.rank

theorem indexed_unique {t : Tool} {i : Nat} {x y : Slot} (hx : (i, x) ∈ t.indexed) (hy : (i, y) ∈ t.indexed) : x = y := by
  have same := (mem_indexed.mp hx).2.symm.trans (mem_indexed.mp hy).2
  exact Option.some.inj same

/-- R160: a round of one depth, its pinned slots or its unpinned ones. -/
theorem arranged_round (t : Tool) (d : Nat) (b : Bool) (test : Slot → Bool)
    (round : ∀ x, test x = true ↔ x.depth = d ∧ x.pinned = b) : Arranged t (t.indexed.filter fun p => test p.2) where
  mem := fun p mem => (List.mem_filter.mp mem).1
  order := by
    refine ((indexed_ascending t).filter _).imp_of_mem fun {p q} hp hq less => ⟨Nat.ne_of_lt less, ?_⟩
    obtain ⟨dp, bp⟩ := (round _).mp (List.mem_filter.mp hp).2
    obtain ⟨dq, bq⟩ := (round _).mp (List.mem_filter.mp hq).2
    simp only [Slot.rank, dp, bp, dq, bq, Nat.le_refl]

theorem Arranged.append {t : Tool} {l m : List (Nat × Slot)} (hl : Arranged t l) (hm : Arranged t m)
    (later : ∀ p ∈ l, ∀ q ∈ m, p.2.rank < q.2.rank) : Arranged t (l ++ m) where
  mem := fun p mem => (List.mem_append.mp mem).elim (hl.mem p) (hm.mem p)
  order := List.pairwise_append.mpr ⟨hl.order, hm.order, fun p hp q hq => by
    refine ⟨fun same => ?_, Nat.le_of_lt (later p hp q hq)⟩
    have one : p.2 = q.2 := indexed_unique (i := p.1) (hl.mem p hp) (same ▸ hm.mem q hq)
    exact Nat.lt_irrefl _ (one ▸ later p hp q hq)⟩

theorem mem_round {l : List (Nat × Slot)} {d : Nat} {b : Bool} {test : Slot → Bool}
    (round : ∀ x, test x = true ↔ x.depth = d ∧ x.pinned = b) {p : Nat × Slot} (h : p ∈ l.filter fun p => test p.2) :
    p.2.rank = 2 * d + if b then 0 else 1 := by
  obtain ⟨depth, pinned⟩ := (round _).mp (List.mem_filter.mp h).2
  rw [Slot.rank, depth, pinned]

/-- R160: the rounds of one depth. -/
def Tool.roundsOf (t : Tool) (d : Nat) : List (Nat × Slot) :=
  (t.indexed.filter fun p => p.2.depth == d && p.2.pinned) ++ (t.indexed.filter fun p => p.2.depth == d && !p.2.pinned)

theorem matchingOrder_eq (t : Tool) : t.matchingOrder = t.roundsOf 0 ++ (t.roundsOf 1 ++ t.roundsOf 2) := by
  simp only [Tool.matchingOrder, Tool.roundsOf, List.flatMap_cons, List.flatMap_nil, List.append_nil]

theorem roundsOf_arranged (t : Tool) (d : Nat) :
    Arranged t (t.roundsOf d) ∧ ∀ p ∈ t.roundsOf d, 2 * d ≤ p.2.rank ∧ p.2.rank ≤ 2 * d + 1 := by
  have pinned : ∀ x : Slot, (x.depth == d && x.pinned) = true ↔ x.depth = d ∧ x.pinned = true := by simp
  have unpinned : ∀ x : Slot, (x.depth == d && !x.pinned) = true ↔ x.depth = d ∧ x.pinned = false := by simp
  refine ⟨(arranged_round t d true _ pinned).append (arranged_round t d false _ unpinned) fun p hp q hq => ?_,
    fun p hp => ?_⟩
  · rw [mem_round pinned hp, mem_round unpinned hq]
    simp
  · obtain hp | hp := List.mem_append.mp hp
    · rw [mem_round pinned hp]
      simp
    · rw [mem_round unpinned hp]
      simp

theorem matchingOrder_arranged (t : Tool) : Arranged t t.matchingOrder := by
  rw [matchingOrder_eq]
  refine (roundsOf_arranged t 0).1.append ((roundsOf_arranged t 1).1.append (roundsOf_arranged t 2).1
    fun p hp q hq => ?_) fun p hp q hq => ?_
  · have := (roundsOf_arranged t 1).2 p hp
    have := (roundsOf_arranged t 2).2 q hq
    omega
  · have first := (roundsOf_arranged t 0).2 p hp
    obtain hq | hq := List.mem_append.mp hq
    · have := (roundsOf_arranged t 1).2 q hq
      omega
    · have := (roundsOf_arranged t 2).2 q hq
      omega

theorem mem_roundsOf {t : Tool} {d : Nat} {p : Nat × Slot} : p ∈ t.roundsOf d ↔ p ∈ t.indexed ∧ p.2.depth = d := by
  simp only [Tool.roundsOf, List.mem_append, List.mem_filter, Bool.and_eq_true, beq_iff_eq, Bool.not_eq_true']
  cases p.2.pinned <;> simp

/-! ## A tool's slots (R144, R146) -/

section

variable {t : Tool} (inv : ToolInv t)
include inv

theorem slot_depth {i : Nat} {x : Slot} (h : (i, x) ∈ t.indexed) : x.depth ≤ 2 := by
  have fits := inv.fits _ _ (mem_indexed.mp h).2
  unfold Slot.fits at fits
  split at fits
  · omega
  · exact fits.2.1

theorem mem_matchingOrder {p : Nat × Slot} : p ∈ t.matchingOrder ↔ p ∈ t.indexed := by
  rw [matchingOrder_eq]
  simp only [List.mem_append, mem_roundsOf]
  constructor
  · rintro (⟨mem, _⟩ | ⟨mem, _⟩ | ⟨mem, _⟩) <;> exact mem
  · intro h
    have := slot_depth inv (i := p.1) (x := p.2) h
    have : p.2.depth = 0 ∨ p.2.depth = 1 ∨ p.2.depth = 2 := by omega
    exact this.imp (⟨h, ·⟩) (Or.imp (⟨h, ·⟩) (⟨h, ·⟩))

/-- R144: a slot at the lane root has no leg. -/
theorem slot_root {i : Nat} {x : Slot} (h : (i, x) ∈ t.indexed) (root : x.parent = 0) : x.leg = none ∧ x.depth = 0 := by
  have fits := inv.fits _ _ (mem_indexed.mp h).2
  rw [Slot.fits, if_pos root] at fits
  exact fits

/-- R144: a slot below has an earlier parent slot, on its lane and at the depth above. -/
theorem slot_parent {i : Nat} {x : Slot} (h : (i, x) ∈ t.indexed) (below : x.parent ≠ 0) :
    ∃ p, (x.parent, p) ∈ t.indexed ∧ p.lane = x.lane ∧ x.depth = p.depth + 1 := by
  have fits := inv.fits _ _ (mem_indexed.mp h).2
  rw [Slot.fits, if_neg below] at fits
  obtain ⟨_, _, p, found, _, lane, depth⟩ := fits
  refine ⟨p, mem_indexed.mpr ⟨Nat.one_le_iff_ne_zero.mpr below, ?_⟩, lane, depth⟩
  rw [List.getElem?_take] at found
  split at found
  · exact found
  · cases found

/-- R146: two slots of a tool have different pins, and different unpinned positions. -/
theorem slots_apart {i j : Nat} {x y : Slot} (hx : (i, x) ∈ t.indexed) (hy : (j, y) ∈ t.indexed) (differ : i ≠ j)
    (filling : x.filling = y.filling) :
    x.pinned = false ∧ ¬(x.lane = y.lane ∧ x.cls = y.cls ∧ x.parent = y.parent ∧ x.leg = y.leg) := by
  have pinned : x.pinned = y.pinned := by simp only [Slot.pinned, filling]
  obtain ⟨lowX, slotX⟩ := mem_indexed.mp hx
  obtain ⟨lowY, slotY⟩ := mem_indexed.mp hy
  obtain ⟨inX, rfl⟩ := List.getElem?_eq_some_iff.mp slotX
  obtain ⟨inY, rfl⟩ := List.getElem?_eq_some_iff.mp slotY
  have apart := List.pairwise_iff_getElem.mp inv.apart
  obtain less | more : i - 1 < j - 1 ∨ j - 1 < i - 1 := by omega
  · have pair := apart _ _ inX inY less
    simp only [Slot.samePin, Slot.samePosition, ← pinned, filling, beq_self_eq_true, Bool.and_true, Bool.and_eq_false_iff,
      Bool.not_eq_false', beq_eq_false_iff_ne] at pair
    obtain ⟨free, position⟩ := pair
    refine ⟨free, fun ⟨lane, cls, parent, leg⟩ => ?_⟩
    simp [free, lane, cls, parent, leg] at position
  · have pair := apart _ _ inY inX more
    simp only [Slot.samePin, Slot.samePosition, filling, beq_self_eq_true, Bool.and_true, Bool.and_eq_false_iff,
      Bool.not_eq_false', beq_eq_false_iff_ne] at pair
    obtain ⟨free, position⟩ := pair
    refine ⟨free, fun ⟨lane, cls, parent, leg⟩ => ?_⟩
    simp [free, lane, cls, parent, leg] at position

end

/-! ## What the rounds have filled (R160) -/

/-- R160: what is filled after slots handled in this order. -/
def fills (view : List Entry) (l : List (Nat × Slot)) : List Filled := l.foldl (matchSlot view) []

section

variable {view : List Entry}

theorem fills_snoc (l : List (Nat × Slot)) (p : Nat × Slot) : fills view (l ++ [p]) = matchSlot view (fills view l) p := by
  rw [fills, List.foldl_append]
  rfl

theorem matchSlot_none {filled : List Filled} {p : Nat × Slot} (h : p.2.filler view filled = none) :
    matchSlot view filled p = filled := by
  simp only [matchSlot, h]

theorem matchSlot_some {filled : List Filled} {p : Nat × Slot} {e : Entry} (h : p.2.filler view filled = some e) :
    matchSlot view filled p = filled ++ [{ index := p.1, key := e.key, pinned := p.2.pinned }] := by
  simp only [matchSlot, h]

/-- R160: what more slots add: each at most once, under its index. -/
theorem fills_append (l m : List (Nat × Slot)) :
    ∃ added, fills view (l ++ m) = fills view l ++ added ∧
      (added.map fun f => (f.index, f.pinned)).Sublist (m.map fun p => (p.1, p.2.pinned)) := by
  induction m using snoc_induction with
  | nil => exact ⟨[], by simp, List.Sublist.slnil⟩
  | snoc m p ih =>
    obtain ⟨added, filled, sub⟩ := ih
    rw [← List.append_assoc, fills_snoc, List.map_append, List.map_singleton]
    cases h : p.2.filler view (fills view (l ++ m)) with
    | none => exact ⟨added, by rw [matchSlot_none h, filled], sub.trans (List.sublist_append_left _ _)⟩
    | some e =>
      refine ⟨added ++ [{ index := p.1, key := e.key, pinned := p.2.pinned }], ?_, ?_⟩
      · rw [matchSlot_some h, filled, List.append_assoc]
      · rw [List.map_append, List.map_singleton]
        exact List.Sublist.append sub (List.Sublist.refl _)

/-- R160: a slot filled was handled, after those before it. -/
theorem mem_fills {l : List (Nat × Slot)} {f : Filled} :
    f ∈ fills view l ↔
      ∃ l₁ p l₂ e, l = l₁ ++ p :: l₂ ∧ p.2.filler view (fills view l₁) = some e ∧
        f = { index := p.1, key := e.key, pinned := p.2.pinned } := by
  induction l using snoc_induction with
  | nil => simp [fills]
  | snoc l p ih =>
    rw [fills_snoc]
    have before : f ∈ fills view l → ∃ l₁ q l₂ e, l ++ [p] = l₁ ++ q :: l₂ ∧ q.2.filler view (fills view l₁) = some e ∧
        f = { index := q.1, key := e.key, pinned := q.2.pinned } := fun mem => by
      obtain ⟨l₁, q, l₂, e, rfl, filler, rfl⟩ := ih.mp mem
      exact ⟨l₁, q, l₂ ++ [p], e, by simp, filler, rfl⟩
    constructor
    · intro mem
      cases h : p.2.filler view (fills view l) with
      | none => exact before (matchSlot_none h ▸ mem)
      | some e =>
        rw [matchSlot_some h, List.mem_append, List.mem_singleton] at mem
        obtain mem | rfl := mem
        · exact before mem
        · exact ⟨l, p, [], e, rfl, h, rfl⟩
    · rintro ⟨l₁, q, l₂, e, eq, filler, rfl⟩
      obtain rfl | ⟨m, r, rfl⟩ := List.eq_nil_or_concat l₂
      · obtain ⟨rfl, rfl⟩ := List.append_singleton_inj.mp eq
        rw [matchSlot_some filler]
        simp
      · rw [List.concat_eq_append, ← List.cons_append, ← List.append_assoc] at eq
        obtain ⟨rfl, rfl⟩ := List.append_singleton_inj.mp eq
        have mem := ih.mpr ⟨l₁, q, m, e, rfl, filler, rfl⟩
        unfold matchSlot
        split
        · exact mem
        · exact List.mem_append_left _ mem

end

end Sys2Proof.Machine
end

section
/-!
How slots are filled: each at most once, each entry at one slot at most, and by whom (R160 to R162).
-/

namespace Sys2Proof.Machine

/-- R117, R121, R156: what the entries of a view have in common with the table. -/
structure Sighted (view : List Entry) : Prop where
  keys : ∀ a ∈ view, ∀ b ∈ view, a.key = b.key → a = b
  identities : ∀ a ∈ view, ∀ b ∈ view, a.key.lane = b.key.lane → a.identity = b.identity → a = b
  handles : ∀ e ∈ view, e.key.handle ≠ 0
  once : view.Nodup

theorem namingView_sighted {s : State} (inv : TableInv s) : Sighted s.namingView := by
  have sub : s.namingView.Sublist s.table.entries := List.filter_sublist
  have keeps := (tableInv_iff s).mp inv
  refine ⟨fun a ha b hb => keeps.key_unique (sub.subset ha) (sub.subset hb),
    fun a ha b hb => keeps.identity_unique (sub.subset ha) (sub.subset hb),
    fun e he => Nat.one_le_iff_ne_zero.mp (inv.entries e (sub.subset he)).handle.1, ?_⟩
  exact (inv.ordered.imp fun {a b} ahead (same : a = b) => before_irrefl b.key (same ▸ ahead)).sublist sub

/-! ## One slot's filler -/

section

variable {view : List Entry} {filled : List Filled} {x : Slot} {e : Entry}

theorem mem_insertByIdentity (y : Entry) (es : List Entry) : e ∈ insertByIdentity y es ↔ e = y ∨ e ∈ es := by
  induction es with
  | nil => simp [insertByIdentity]
  | cons z es ih =>
    unfold insertByIdentity
    split
    · simp
    · rw [List.mem_cons, ih, List.mem_cons]
      exact or_left_comm

theorem mem_byIdentity (es : List Entry) : e ∈ byIdentity es ↔ e ∈ es := by
  induction es with
  | nil => rfl
  | cons y es ih => rw [byIdentity, List.foldr_cons, ← byIdentity, mem_insertByIdentity, ih, List.mem_cons]

theorem insertByIdentity_ascending {y : Entry} {es : List Entry}
    (sorted : es.Pairwise fun a b => a.identity.toNat < b.identity.toNat) (fresh : ∀ z ∈ es, y.identity ≠ z.identity) :
    (insertByIdentity y es).Pairwise fun a b => a.identity.toNat < b.identity.toNat := by
  induction es with
  | nil => exact List.pairwise_singleton _ _
  | cons z es ih =>
    obtain ⟨first, later⟩ := List.pairwise_cons.mp sorted
    unfold insertByIdentity
    split
    · rename_i less
      refine List.pairwise_cons.mpr ⟨fun w hw => ?_, sorted⟩
      obtain rfl | hw := List.mem_cons.mp hw
      · exact less
      · exact Nat.lt_trans less (first w hw)
    · rename_i more
      refine List.pairwise_cons.mpr ⟨fun w hw => ?_, ih later fun w hw => fresh w (List.mem_cons_of_mem _ hw)⟩
      obtain rfl | hw := (mem_insertByIdentity y es).mp hw
      · have differ : w.identity.toNat ≠ z.identity.toNat :=
          fun same => fresh z List.mem_cons_self (BitVec.eq_of_toNat_eq same)
        omega
      · exact first w hw

/-- R161: entries of different identities, in ascending order. -/
theorem byIdentity_ascending {es : List Entry} (distinct : es.Pairwise fun a b => a.identity ≠ b.identity) :
    (byIdentity es).Pairwise fun a b => a.identity.toNat < b.identity.toNat := by
  induction es with
  | nil => exact List.Pairwise.nil
  | cons y es ih =>
    obtain ⟨first, later⟩ := List.pairwise_cons.mp distinct
    exact insertByIdentity_ascending (ih later) fun z hz => first z ((mem_byIdentity es).mp hz)

theorem mem_pool {a : Nat} :
    e ∈ x.pool a view filled ↔
      e ∈ view ∧ x.placed a e = true ∧ ∀ f ∈ filled, f.pinned = true → f.key ≠ e.key := by
  simp only [Slot.pool, mem_byIdentity, List.mem_filter, Bool.and_eq_true, Bool.not_eq_true', List.any_eq_false, beq_iff_eq,
    not_and]

theorem pool_ascending (sighted : Sighted view) (a : Nat) :
    (x.pool a view filled).Pairwise fun a b => a.identity.toNat < b.identity.toNat := by
  refine byIdentity_ascending ?_
  refine (sighted.once.filter _).imp_of_mem fun {p q} hp hq differ same => differ ?_
  simp only [List.mem_filter, Slot.placed, Bool.and_eq_true, beq_iff_eq] at hp hq
  obtain ⟨vp, ⟨⟨⟨lp, _⟩, _⟩, _⟩, _⟩ := hp
  obtain ⟨vq, ⟨⟨⟨lq, _⟩, _⟩, _⟩, _⟩ := hq
  exact sighted.identities p vp q vq (lp.trans lq.symm) same

/-- R160: the anchor, by what has filled the parent slot. -/
theorem anchor_iff (once : (filled.map Filled.index).Nodup) {a : Nat} :
    x.anchor filled = some a ↔
      if x.parent = 0 then a = 0 else ∃ f ∈ filled, f.index = x.parent ∧ a = f.key.handle := by
  unfold Slot.anchor
  split
  · exact ⟨fun h => (Option.some.inj h).symm, fun h => congrArg some h.symm⟩
  · rw [Option.map_eq_some_iff]
    constructor
    · rintro ⟨f, found, rfl⟩
      exact ⟨f, List.mem_of_find?_eq_some found, by simpa using List.find?_some found, rfl⟩
    · rintro ⟨f, mem, index, rfl⟩
      refine ⟨f, ?_, rfl⟩
      have some : (filled.find? fun g => g.index == x.parent).isSome = true :=
        List.find?_isSome.mpr ⟨f, mem, by simpa using index⟩
      obtain ⟨g, found⟩ := Option.isSome_iff_exists.mp some
      have index' : g.index = x.parent := by simpa using List.find?_some found
      rw [found, eq_of_distinct_images once (List.mem_of_find?_eq_some found) mem (index'.trans index.symm)]

/-- R160: an entry stands at a slot's place. -/
theorem fitsAt_iff (once : (filled.map Filled.index).Nodup) :
    x.fitsAt filled e ↔ ∃ a, x.anchor filled = some a ∧ x.placed a e = true := by
  simp only [anchor_iff once, Slot.fitsAt, Slot.placed, Bool.and_eq_true, Bool.or_eq_true, beq_iff_eq]
  by_cases root : x.parent = 0
  · simp only [root, if_true, exists_eq_left, true_or, and_true]
    exact and_assoc.symm
  · simp only [root, if_false, false_or]
    constructor
    · rintro ⟨lane, cls, leg, f, mem, index, parent⟩
      exact ⟨_, ⟨f, mem, index, rfl⟩, ⟨⟨lane, cls⟩, parent⟩, leg⟩
    · rintro ⟨a, ⟨f, mem, index, rfl⟩, ⟨⟨lane, cls⟩, parent⟩, leg⟩
      exact ⟨lane, cls, leg, f, mem, index, parent⟩

/-- R161: a pinned slot takes the entry with its pin that stands at its place. -/
theorem filler_pin (sighted : Sighted view) (once : (filled.map Filled.index).Nodup) {p : Identity}
    (pin : x.filling = .pin p) :
    x.filler view filled = some e ↔ e ∈ view ∧ e.identity = p ∧ x.fitsAt filled e := by
  rw [fitsAt_iff once]
  cases anchor : x.anchor filled with
  | none => simp [Slot.filler, anchor]
  | some a =>
    simp only [Slot.filler, anchor, pin, Option.some.injEq, exists_eq_left']
    constructor
    · intro found
      have test := List.find?_some found
      simp only [Bool.and_eq_true, beq_iff_eq] at test
      exact ⟨List.mem_of_find?_eq_some found, test.1, test.2⟩
    · rintro ⟨mem, identity, placed⟩
      have some : (view.find? fun e => e.identity == p && x.placed a e).isSome = true :=
        List.find?_isSome.mpr ⟨e, mem, by simp [identity, placed]⟩
      obtain ⟨d, found⟩ := Option.isSome_iff_exists.mp some
      have test := List.find?_some found
      simp only [Bool.and_eq_true, beq_iff_eq] at test
      have lane (y : Entry) (h : x.placed a y = true) : y.key.lane = x.lane := by
        simp only [Slot.placed, Bool.and_eq_true, beq_iff_eq] at h
        exact h.1.1.1
      rw [found, sighted.identities d (List.mem_of_find?_eq_some found) e mem ((lane d test.2).trans (lane e placed).symm)
        (test.1.trans identity.symm)]

theorem filler_ordinal {k : Nat} (ordinal : x.filling = .ordinal k) :
    x.filler view filled = some e ↔
      ∃ a, x.anchor filled = some a ∧ k ≠ 0 ∧ (x.pool a view filled)[k - 1]? = some e := by
  cases anchor : x.anchor filled with
  | none => simp [Slot.filler, anchor]
  | some a =>
    simp only [Slot.filler, anchor, ordinal, Option.some.injEq, exists_eq_left']
    split
    · rename_i zero
      simp [zero]
    · rename_i positive
      simp [positive]

theorem filler_fits (sighted : Sighted view) (once : (filled.map Filled.index).Nodup)
    (filler : x.filler view filled = some e) : e ∈ view ∧ x.fitsAt filled e := by
  cases filling : x.filling with
  | pin p =>
    obtain ⟨mem, _, fits⟩ := (filler_pin sighted once filling).mp filler
    exact ⟨mem, fits⟩
  | ordinal k =>
    obtain ⟨a, anchor, _, place⟩ := (filler_ordinal filling).mp filler
    obtain ⟨mem, placed, _⟩ := mem_pool.mp (List.mem_of_getElem? place)
    exact ⟨mem, (fitsAt_iff once).mpr ⟨a, anchor, placed⟩⟩

end

end Sys2Proof.Machine
end

section
/-!
The statement on which entry fills which slot (O57): each slot is filled once and each entry fills one slot, so that
what a round
sees of the slots filled before is what the whole pass fills.
-/

namespace Sys2Proof.Machine

section

variable {t : Tool} {view : List Entry}

/-! ## Slots are filled once -/

theorem Arranged.indices {l : List (Nat × Slot)} (h : Arranged t l) : (l.map Prod.fst).Nodup :=
  List.pairwise_map.mpr (h.order.imp fun r => r.1)

theorem Arranged.left {l m : List (Nat × Slot)} (h : Arranged t (l ++ m)) : Arranged t l where
  mem := fun p mem => h.mem p (List.mem_append_left _ mem)
  order := (List.pairwise_append.mp h.order).1

theorem fills_once {l : List (Nat × Slot)} (h : Arranged t l) : ((fills view l).map Filled.index).Nodup := by
  obtain ⟨added, filled, sub⟩ := fills_append (view := view) [] l
  have firsts : (added.map Filled.index).Sublist (l.map Prod.fst) := by
    simpa [Function.comp_def] using sub.map Prod.fst
  rw [List.nil_append] at filled
  rw [filled]
  exact firsts.nodup h.indices

/-- A slot filled by a later list is one of that list. -/
theorem added_from {l m : List (Nat × Slot)} {f : Filled} (h : f ∈ fills view (l ++ m)) :
    f ∈ fills view l ∨ ∃ q ∈ m, f.index = q.1 ∧ f.pinned = q.2.pinned := by
  obtain ⟨added, filled, sub⟩ := fills_append (view := view) l m
  rw [filled, List.mem_append] at h
  refine h.imp_right fun mem => ?_
  obtain ⟨q, hq, same⟩ := List.mem_map.mp (sub.subset (List.mem_map_of_mem mem))
  obtain ⟨index, pinned⟩ := Prod.mk.inj same
  exact ⟨q, hq, index.symm, pinned.symm⟩

theorem fills_mono {l m : List (Nat × Slot)} {f : Filled} (h : f ∈ fills view l) : f ∈ fills view (l ++ m) := by
  obtain ⟨added, filled, _⟩ := fills_append (view := view) l m
  rw [filled]
  exact List.mem_append_left _ h

section

variable (inv : ToolInv t)
include inv

/-- R160: a slot's parent is of an earlier round. -/
theorem parent_earlier {i : Nat} {x y : Slot} (hx : (i, x) ∈ t.indexed) (hy : (x.parent, y) ∈ t.indexed) :
    y.rank < x.rank := by
  have below : x.parent ≠ 0 := Nat.one_le_iff_ne_zero.mp (mem_indexed.mp hy).1
  obtain ⟨p, parent, _, depth⟩ := slot_parent inv hx below
  rw [indexed_unique hy parent]
  simp only [Slot.rank, depth]
  split <;> split <;> omega

/-- R160: who stands at a slot's place is settled when its round comes. -/
theorem fitsAt_settled {l m : List (Nat × Slot)} {p : Nat × Slot} (h : Arranged t (l ++ p :: m)) (e : Entry) :
    p.2.fitsAt (fills view l) e ↔ p.2.fitsAt (fills view (l ++ p :: m)) e := by
  have here : (p.1, p.2) ∈ t.indexed := h.mem p (by simp)
  have parents : (∃ f ∈ fills view l, f.index = p.2.parent ∧ e.parent = f.key.handle) ↔
      ∃ f ∈ fills view (l ++ p :: m), f.index = p.2.parent ∧ e.parent = f.key.handle := by
    constructor
    · rintro ⟨f, mem, rest⟩
      exact ⟨f, fills_mono mem, rest⟩
    · rintro ⟨f, mem, index, parent⟩
      obtain mem | ⟨q, hq, from_, _⟩ := added_from mem
      · exact ⟨f, mem, index, parent⟩
      · have later : p.2.rank ≤ q.2.rank := by
          obtain rfl | hq := List.mem_cons.mp hq
          · exact Nat.le_refl _
          · exact ((List.pairwise_cons.mp (List.pairwise_append.mp h.order).2.1).1 q hq).2
        have known : (p.2.parent, q.2) ∈ t.indexed := by
          rw [← index, from_]
          exact h.mem q (List.mem_append_right _ hq)
        exact absurd (parent_earlier inv here known) (Nat.not_lt.mpr later)
  simp only [Slot.fitsAt, parents]

/-- R160: a slot filled, with the entry that fills it. -/
theorem filled_from (sighted : Sighted view) {l : List (Nat × Slot)} (h : Arranged t l) {f : Filled}
    (mem : f ∈ fills view l) :
    ∃ x e, (f.index, x) ∈ l ∧ e ∈ view ∧ e.key = f.key ∧ f.pinned = x.pinned ∧ x.fitsAt (fills view l) e := by
  obtain ⟨l₁, p, l₂, e, rfl, filler, rfl⟩ := mem_fills.mp mem
  obtain ⟨seen, fits⟩ := filler_fits sighted (fills_once h.left) filler
  exact ⟨p.2, e, by simp, seen, rfl, rfl, (fitsAt_settled inv h e).mp fits⟩

/-! ## Entries fill one slot each -/

/-- R160: an entry stands at one place: two slots at whose place it stands have all of it in common. -/
theorem place_unique (sighted : Sighted view) {l : List (Nat × Slot)} (h : Arranged t l)
    (keys : ∀ f ∈ fills view l, ∀ g ∈ fills view l, f.key = g.key → f = g) {i j : Nat} {x y : Slot} {e : Entry}
    (hx : (i, x) ∈ t.indexed) (hy : (j, y) ∈ t.indexed) (fx : x.fitsAt (fills view l) e) (fy : y.fitsAt (fills view l) e) :
    (x.lane = y.lane ∧ x.cls = y.cls ∧ x.parent = y.parent ∧ x.leg = y.leg) ∧ x.depth = y.depth := by
  have anchored {k : Nat} {z : Slot} (hz : (k, z) ∈ t.indexed) (fz : z.fitsAt (fills view l) e) (below : z.parent ≠ 0) :
      e.leg = z.leg ∧ ∃ f ∈ fills view l, f.index = z.parent ∧ e.parent = f.key.handle ∧ f.key.lane = e.key.lane ∧
        f.key.handle ≠ 0 := by
    obtain ⟨lane, _, rest⟩ := fz
    rw [if_neg below] at rest
    obtain ⟨leg, f, mem, index, parent⟩ := rest
    obtain ⟨w, d, source, seen, key, _, laneW, _⟩ := filled_from inv sighted h mem
    obtain ⟨p, known, laneP, _⟩ := slot_parent inv hz below
    have same : w = p := indexed_unique (i := f.index) (h.mem _ source) (index ▸ known)
    refine ⟨leg, f, mem, index, parent, ?_, key ▸ sighted.handles d seen⟩
    rw [← key, laneW, same, laneP, lane]
  have lanes : x.lane = y.lane := fx.1.symm.trans fy.1
  have classes : x.cls = y.cls := fx.2.1.symm.trans fy.2.1
  by_cases rootX : x.parent = 0 <;> by_cases rootY : y.parent = 0
  · obtain ⟨legX, depthX⟩ := slot_root inv hx rootX
    obtain ⟨legY, depthY⟩ := slot_root inv hy rootY
    exact ⟨⟨lanes, classes, rootX.trans rootY.symm, legX.trans legY.symm⟩, depthX.trans depthY.symm⟩
  · obtain ⟨_, f, _, _, parent, _, some⟩ := anchored hy fy rootY
    have root := fx.2.2
    rw [if_pos rootX] at root
    exact absurd (parent.symm.trans root) some
  · obtain ⟨_, f, _, _, parent, _, some⟩ := anchored hx fx rootX
    have root := fy.2.2
    rw [if_pos rootY] at root
    exact absurd (parent.symm.trans root) some
  · obtain ⟨legX, f, memF, indexF, parentF, laneF, _⟩ := anchored hx fx rootX
    obtain ⟨legY, g, memG, indexG, parentG, laneG, _⟩ := anchored hy fy rootY
    have key : f.key = g.key := by
      cases hf : f.key
      cases hg : g.key
      simp_all
    have parents : x.parent = y.parent := by rw [← indexF, keys f memF g memG key, indexG]
    obtain ⟨p, knownP, _, depthX⟩ := slot_parent inv hx rootX
    obtain ⟨q, knownQ, _, depthY⟩ := slot_parent inv hy rootY
    have one : p = q := indexed_unique knownP (parents ▸ knownQ)
    exact ⟨⟨lanes, classes, parents, legX.symm.trans legY⟩, by rw [depthX, depthY, one]⟩

end

/-- R161: the pools of two unpinned slots at one place are one, with no pinned slot handled between them. -/
theorem pool_same {x y : Slot} {e : Entry} {a b : Nat} {filled added : List Filled} (lane : x.lane = y.lane)
    (cls : x.cls = y.cls)
    (parent : x.parent = y.parent) (leg : x.leg = y.leg) (px : x.placed a e = true) (py : y.placed b e = true)
    (unpinned : ∀ f ∈ added, f.pinned = false) :
    x.pool a view (filled ++ added) = y.pool b view filled := by
  have anchors : a = b := by
    simp only [Slot.placed, Bool.and_eq_true, beq_iff_eq] at px py
    exact px.1.2.symm.trans py.1.2
  have place : x.placed a = y.placed b := by
    funext d
    simp only [Slot.placed, lane, cls, parent, leg, anchors]
  have none (d : Entry) : (added.any fun f => f.pinned && f.key == d.key) = false :=
    List.any_eq_false.mpr fun f mem => by simp [unpinned f mem]
  simp only [Slot.pool, place, List.any_append, none, Bool.or_false]

theorem pool_nodup {x : Slot} (sighted : Sighted view) {a : Nat} {filled : List Filled} : (x.pool a view filled).Nodup :=
  (pool_ascending sighted a).imp fun {p q} less (same : p = q) => Nat.lt_irrefl _ (same ▸ less)

/-- R161: an ascending pool holds no entry twice. -/
theorem pool_place {x : Slot} (sighted : Sighted view) {a : Nat} {filled : List Filled} {e : Entry} {j k : Nat}
    (hj : (x.pool a view filled)[j]? = some e) (hk : (x.pool a view filled)[k]? = some e) : j = k := by
  obtain ⟨inJ, _⟩ := List.getElem?_eq_some_iff.mp hj
  exact (List.getElem?_inj inJ (pool_nodup sighted)).mp (hj.trans hk.symm)

/-- R160 to R162: two slots handled one after the other are not filled by one entry. -/
theorem fillers_differ (inv : ToolInv t) (sighted : Sighted view) {l m : List (Nat × Slot)} {p q : Nat × Slot} {e : Entry}
    (h : Arranged t (l ++ q :: m ++ [p])) (keys : ∀ f ∈ fills view (l ++ q :: m), ∀ g ∈ fills view (l ++ q :: m),
      f.key = g.key → f = g) (first : q.2.filler view (fills view l) = some e)
    (second : p.2.filler view (fills view (l ++ q :: m)) = some e) : False := by
  have before : Arranged t (l ++ q :: m) := h.left
  have hq : (q.1, q.2) ∈ t.indexed := before.mem q (by simp)
  have hp : (p.1, p.2) ∈ t.indexed := h.mem p (by simp)
  have order := List.pairwise_append.mp h.order
  obtain ⟨differ, ranks⟩ := order.2.2 q (by simp) p (by simp)
  obtain ⟨_, fitsP⟩ := filler_fits sighted (fills_once before) second
  obtain ⟨_, fitsQ⟩ := filler_fits sighted (fills_once before.left) first
  rw [fitsAt_settled inv before] at fitsQ
  obtain ⟨⟨lane, cls, parent, leg⟩, depth⟩ := place_unique inv sighted before keys hp hq fitsP fitsQ
  have apart := slots_apart inv hp hq (Ne.symm differ)
  cases fillP : p.2.filling with
  | pin pinP =>
    have pinnedP : p.2.pinned = true := by simp only [Slot.pinned, fillP]
    cases fillQ : q.2.filling with
    | pin pinQ =>
      have one := ((filler_pin sighted (fills_once before) fillP).mp second).2.1
      have other := ((filler_pin sighted (fills_once before.left) fillQ).mp first).2.1
      exact absurd (apart (by rw [fillP, fillQ, ← one, ← other])).1 (by simp [pinnedP])
    | ordinal kQ =>
      have pinnedQ : q.2.pinned = false := by simp only [Slot.pinned, fillQ]
      simp only [Slot.rank, pinnedP, pinnedQ, depth, if_true, Bool.false_eq_true, if_false] at ranks
      omega
  | ordinal kP =>
    obtain ⟨a, _, positiveP, placeP⟩ := (filler_ordinal fillP).mp second
    obtain ⟨_, placedP, free⟩ := mem_pool.mp (List.mem_of_getElem? placeP)
    cases fillQ : q.2.filling with
    | pin pinQ =>
      have pinnedQ : q.2.pinned = true := by simp only [Slot.pinned, fillQ]
      exact free { index := q.1, key := e.key, pinned := q.2.pinned } (mem_fills.mpr ⟨l, q, m, e, rfl, first, rfl⟩) pinnedQ rfl
    | ordinal kQ =>
      obtain ⟨b, _, positiveQ, placeQ⟩ := (filler_ordinal fillQ).mp first
      obtain ⟨_, placedQ, _⟩ := mem_pool.mp (List.mem_of_getElem? placeQ)
      obtain ⟨added, filled, sub⟩ := fills_append (view := view) l (q :: m)
      have unpinned : ∀ f ∈ added, f.pinned = false := fun f mem => by
        obtain ⟨r, hr, same⟩ := List.mem_map.mp (sub.subset (List.mem_map_of_mem mem))
        obtain ⟨_, pinned⟩ := Prod.mk.inj same
        have least : q.2.rank ≤ r.2.rank := by
          obtain rfl | hr := List.mem_cons.mp hr
          · exact Nat.le_refl _
          · exact ((List.pairwise_cons.mp (List.pairwise_append.mp before.order).2.1).1 r hr).2
        have most : r.2.rank ≤ p.2.rank := (order.2.2 r (List.mem_append_right _ hr) p (by simp)).2
        have pinnedP : p.2.pinned = false := by simp only [Slot.pinned, fillP]
        have pinnedQ : q.2.pinned = false := by simp only [Slot.pinned, fillQ]
        simp only [Slot.rank, pinnedP, pinnedQ, depth, Bool.false_eq_true, if_false] at least most
        cases hr : r.2.pinned with
        | false => exact pinned ▸ hr
        | true =>
          simp only [hr, if_true] at least most
          omega
      rw [filled, pool_same lane cls parent leg placedP placedQ unpinned] at placeP
      have one : kP - 1 = kQ - 1 := pool_place sighted placeP placeQ
      have ordinals : kP = kQ := by omega
      exact (apart (by rw [fillP, fillQ, ordinals])).2 ⟨lane, cls, parent, leg⟩

/-- R162: each entry fills at most one slot. -/
theorem fills_keys (inv : ToolInv t) (sighted : Sighted view) {l : List (Nat × Slot)} (h : Arranged t l) :
    ∀ f ∈ fills view l, ∀ g ∈ fills view l, f.key = g.key → f = g := by
  induction l using snoc_induction with
  | nil => exact fun f mem => absurd mem List.not_mem_nil
  | snoc l p ih =>
    have keys := ih h.left
    cases filler : p.2.filler view (fills view l) with
    | none => rwa [fills_snoc, matchSlot_none filler]
    | some e =>
      have fresh : ∀ f ∈ fills view l, f.key ≠ e.key := fun f mem same => by
        obtain ⟨l₁, q, l₂, d, rfl, first, rfl⟩ := mem_fills.mp mem
        have one : d = e := sighted.keys d (filler_fits sighted (fills_once h.left.left) first).1 e
          (filler_fits sighted (fills_once h.left) filler).1 same
        exact fillers_differ inv sighted h keys (one ▸ first) filler
      rw [fills_snoc, matchSlot_some filler]
      intro f hf g hg same
      rw [List.mem_append, List.mem_singleton] at hf hg
      obtain hf | rfl := hf <;> obtain hg | rfl := hg
      · exact keys f hf g hg same
      · exact absurd same (fresh f hf)
      · exact absurd same.symm (fresh g hg)
      · rfl

end

end Sys2Proof.Machine
end

section
/-!
The statement on which entry fills which slot (O57).
-/

namespace Sys2Proof.Machine

/-- A place in an ascending list is the number of the entries below. -/
theorem ascending_place {l : List Entry} (sorted : l.Pairwise fun a b => a.identity.toNat < b.identity.toNat) {j : Nat}
    {e : Entry} (h : l[j]? = some e) : (l.filter fun y => y.identity.toNat < e.identity.toNat).length = j := by
  obtain ⟨inside, rfl⟩ := List.getElem?_eq_some_iff.mp h
  have split : l = l.take j ++ l[j] :: l.drop (j + 1) := by simp
  have ordered := List.pairwise_append.mp (split ▸ sorted)
  obtain ⟨_, right, between⟩ := ordered
  have below : (l.take j).filter (fun y => y.identity.toNat < l[j].identity.toNat) = l.take j :=
    List.filter_eq_self.mpr fun y mem => by simpa using between y mem _ List.mem_cons_self
  have above : (l.drop (j + 1)).filter (fun y => y.identity.toNat < l[j].identity.toNat) = [] :=
    List.filter_eq_nil_iff.mpr fun y mem => by
      have := (List.pairwise_cons.mp right).1 y mem
      simp only [decide_eq_true_eq]
      omega
  have length : (l.take j).length = j := List.length_take_of_le (Nat.le_of_lt inside)
  generalize l[j] = e at split below above
  rw [split, List.filter_append, below, List.filter_cons_of_neg (by simp), above, List.append_nil, length]

section

variable {t : Tool} {view : List Entry} (sighted : Sighted view) {l m : List (Nat × Slot)} {p : Nat × Slot}
  (arranged : Arranged t (l ++ p :: m))
include sighted arranged

/-- R160: who has filled a slot is who was its filler when its round came. -/
theorem slot_filled_iff {e : Entry} (seen : e ∈ view) :
    (∃ f ∈ fills view (l ++ p :: m), f.index = p.1 ∧ f.key = e.key) ↔ p.2.filler view (fills view l) = some e := by
  constructor
  · rintro ⟨f, mem, index, key⟩
    obtain ⟨l₁, q, l₂, d, eq, filler, rfl⟩ := mem_fills.mp mem
    have same : q = p := by
      have hq : (p.1, q.2) ∈ t.indexed := index ▸ arranged.mem q (by rw [eq]; simp)
      exact Prod.ext index (indexed_unique hq (arranged.mem p (by simp)))
    subst same
    have first : l₁ = l := by
      have once (a b : List (Nat × Slot)) (h : Arranged t (a ++ q :: b)) : q ∉ a := fun mem =>
        ((List.pairwise_append.mp h.order).2.2 q mem q List.mem_cons_self).1 rfl
      exact (ahead_unique eq (once _ _ arranged) (once _ _ (eq ▸ arranged))).symm
    subst first
    have one : d = e := sighted.keys d (filler_fits sighted (fills_once arranged.left) filler).1 e seen key
    rw [filler, one]
  · intro filler
    exact ⟨_, mem_fills.mpr ⟨l, p, m, e, rfl, filler, rfl⟩, rfl, rfl⟩

variable (inv : ToolInv t)
include inv

/-- R161: the pool of an unpinned slot, by what the whole pass fills. -/
theorem pooled_iff (unpinned : p.2.pinned = false) {e : Entry} :
    (∃ a, p.2.anchor (fills view l) = some a ∧ e ∈ p.2.pool a view (fills view l)) ↔
      e ∈ view ∧ p.2.fitsAt (fills view (l ++ p :: m)) e ∧
        ∀ f ∈ fills view (l ++ p :: m), f.pinned = true → f.key ≠ e.key := by
  rw [← fitsAt_settled inv arranged, fitsAt_iff (fills_once arranged.left)]
  constructor
  · rintro ⟨a, anchor, mem⟩
    obtain ⟨seen, placed, free⟩ := mem_pool.mp mem
    refine ⟨seen, ⟨a, anchor, placed⟩, fun f hf pinned key => ?_⟩
    obtain hl | ⟨q, hq, index, _⟩ := added_from hf
    · exact free f hl pinned key
    · have fits := (fitsAt_settled inv arranged e).mp ((fitsAt_iff (fills_once arranged.left)).mpr ⟨a, anchor, placed⟩)
      obtain ⟨y, d, source, seenD, keyD, pinnedY, fitsY⟩ := filled_from inv sighted arranged hf
      obtain rfl : d = e := sighted.keys d seenD e seen (keyD.trans key)
      have here : (p.1, p.2) ∈ t.indexed := arranged.mem p (by simp)
      have depth := (place_unique inv sighted arranged (fills_keys inv sighted arranged) here (arranged.mem _ source) fits
        fitsY).2
      have one : q.2 = y :=
        indexed_unique (i := f.index) (index ▸ arranged.mem q (List.mem_append_right _ hq)) (arranged.mem _ source)
      have later : p.2.rank ≤ q.2.rank := by
        obtain rfl | hq := List.mem_cons.mp hq
        · exact Nat.le_refl _
        · exact ((List.pairwise_cons.mp (List.pairwise_append.mp arranged.order).2.1).1 q hq).2
      simp only [Slot.rank, unpinned, pinnedY.symm.trans pinned, one, depth, if_true, Bool.false_eq_true, if_false] at later
      omega
  · rintro ⟨seen, ⟨a, anchor, placed⟩, free⟩
    exact ⟨a, anchor, mem_pool.mpr ⟨seen, placed, fun f hf => free f (fills_mono hf)⟩⟩

/-- R161: an unpinned slot takes the entry of its ordinal, by ascending identity, in its pool. -/
theorem filler_ordinal_iff {k : Nat} (ordinal : p.2.filling = .ordinal k) {e : Entry} :
    p.2.filler view (fills view l) = some e ↔
      ∃ below : List Entry, k = below.length + 1 ∧
        (e ∈ view ∧ p.2.fitsAt (fills view (l ++ p :: m)) e ∧
          ∀ f ∈ fills view (l ++ p :: m), f.pinned = true → f.key ≠ e.key) ∧ below.Nodup ∧
        ∀ y, y ∈ below ↔ (y ∈ view ∧ p.2.fitsAt (fills view (l ++ p :: m)) y ∧
          ∀ f ∈ fills view (l ++ p :: m), f.pinned = true → f.key ≠ y.key) ∧ y.identity.toNat < e.identity.toNat := by
  have unpinned : p.2.pinned = false := by simp only [Slot.pinned, ordinal]
  rw [filler_ordinal ordinal]
  simp only [← pooled_iff sighted arranged inv unpinned]
  constructor
  · rintro ⟨a, anchor, positive, place⟩
    have place_eq := ascending_place (pool_ascending sighted a) place
    refine ⟨(p.2.pool a view (fills view l)).filter fun y => y.identity.toNat < e.identity.toNat, by omega,
      ⟨a, anchor, List.mem_of_getElem? place⟩, (pool_nodup sighted).filter _, fun y => ?_⟩
    simp [anchor]
  · rintro ⟨below, rfl, ⟨a, anchor, mem⟩, once, which⟩
    obtain ⟨j, place⟩ := List.mem_iff_getElem?.mp mem
    have place_eq := ascending_place (pool_ascending sighted a) place
    have same : below.length = ((p.2.pool a view (fills view l)).filter fun y => y.identity.toNat < e.identity.toNat).length :=
      ((List.perm_ext_iff_of_nodup once ((pool_nodup sighted).filter _)).mpr fun y => by
        rw [which y]
        simp [anchor]).length_eq
    exact ⟨a, anchor, Nat.succ_ne_zero _, by rw [Nat.add_sub_cancel, same, place_eq, place]⟩

end

/-- Settles O57. -/
theorem namingPassFillsSlots : Obligations.NamingPassFillsSlots := by
  unfold Obligations.NamingPassFillsSlots
  intro t s tables catalogue defined filled pooled
  have inv : ToolInv t := catalogue.tools t defined
  have sighted := namingView_sighted tables
  have arranged := matchingOrder_arranged t
  have whole : filled = fills s.namingView t.matchingOrder := rfl
  have once : (filled.map Filled.index).Nodup := fills_once arranged
  refine ⟨once, distinct_images once (fills_keys inv sighted arranged), fun f mem => ?_, fun i x e slot seen => ?_⟩
  · obtain ⟨x, e, source, viewed, key, pinned, _⟩ := filled_from inv sighted arranged mem
    obtain ⟨low, place⟩ := mem_indexed.mp (arranged.mem _ source)
    refine ⟨x, e, low, place, mem_namingView.mp viewed, key, ?_⟩
    rw [pinned, Slot.pinned]
    cases x.filling <;> simp
  · have known : (i + 1, x) ∈ t.matchingOrder := (mem_matchingOrder inv).mpr (mem_indexed.mpr ⟨Nat.le_add_left _ _, slot⟩)
    obtain ⟨l, m, split⟩ := List.append_of_mem known
    rw [split] at arranged
    have viewed := mem_namingView.mpr seen
    have pools (y : Entry) : pooled x y ↔ y ∈ s.namingView ∧ x.fitsAt (fills s.namingView (l ++ (i + 1, x) :: m)) y ∧
        ∀ f ∈ fills s.namingView (l ++ (i + 1, x) :: m), f.pinned = true → f.key ≠ y.key := by
      rw [mem_namingView, ← split]
      exact Iff.rfl
    rw [whole, split]
    refine (slot_filled_iff sighted arranged viewed).trans ?_
    cases filling : x.filling with
    | pin p =>
      simp only [filler_pin sighted (fills_once arranged.left) filling]
      rw [fitsAt_settled inv arranged]
      simp [viewed, eq_comm]
    | ordinal k =>
      rw [filler_ordinal_iff sighted arranged inv filling]
      simp only [← pools]
      simp

end Sys2Proof.Machine
end

section
/-!
The ends of transactions, and the roll-call period's expiry (R63, R75, R79 to R85, R134, R135, R137).
-/

namespace Sys2Proof.Machine

/-! ## The end of a transaction (R79 to R85) -/

section

variable {n : Lane} {t : Transaction} {s : State}

theorem lineGrant_withColumn (n : Lane) (c : Column) (s : State) :
    lineGrant n (s.withColumn n c) = s.withColumn n (c.lineGranted s.settings n) := by
  rw [lineGrant_eq, withColumn_col, withColumn_withColumn, withColumn_settings]

/-- R81: an attempt that ends DONE ends its transaction. -/
theorem execAttemptEnd_done (attempting : (s.col n).engine.phase.attempting = true)
    (flight : (s.col n).engine.inFlight = some t) {acks : List Bool} {bytes : List Byte} {r : AttemptResult}
    (result : t.request.result acks bytes = r) (done : r.outcome = .done) :
    exec (.attemptEnd n acks bytes) s =
      .next (lineGrant n (handResult n t (t.doneReport r)
        ((s.handed n r (t.request.run acks bytes).stages).modEngine n Engine.rest))) := by
  rw [execAttemptEnd_taken attempting flight result, stopAttempt, if_pos done, endTransaction]

/-- R79, R81: the failure of the last allowed attempt is counted, and ends its transaction. -/
theorem execAttemptEnd_failed (attempting : (s.col n).engine.phase.attempting = true)
    (flight : (s.col n).engine.inFlight = some t) {acks : List Bool} {bytes : List Byte} {r : AttemptResult}
    (result : t.request.result acks bytes = r) (failed : r.outcome ≠ .done) (offset : t.refusedOffset r = false)
    (spent : ¬t.attempt < t.allowed) :
    exec (.attemptEnd n acks bytes) s =
      .next (lineGrant n (handResult n t (t.failedReport r)
        (((countLineError ⟨n, t.request.target⟩ s).handed n r (t.request.run acks bytes).stages).modEngine n Engine.rest))) := by
  rw [execAttemptEnd_taken attempting flight result, stopAttempt_failed failed offset, retryOrEnd_ends spent, endTransaction]
  simp only [failAttempt, updates_eq, countLineError_withColumn, withColumn_withColumn, withColumn_col,
    State.handed, countLineError_col]
  rfl

/-- R79, R81: at the end of a closing whose transaction has its attempts spent. -/
theorem exec_closingEnds {c : Instr} {stages : List WireStage} (ends : endsClosing c n stages)
    (closing : (s.col n).engine.phase = .closing) (flight : (s.col n).engine.inFlight = some t)
    (spent : ¬t.attempt < t.allowed) :
    ∃ r : AttemptResult, r = { brokenResult ((s.col n).engine.lastFailed.getD (.stall, none)).1 0 with
        failedByte := ((s.col n).engine.lastFailed.getD (.stall, none)).2 } ∧
      exec c s = .next (lineGrant n (handResult n t (t.failedReport r) ((s.closed n stages).modEngine n Engine.rest))) := by
  refine ⟨_, rfl, ?_⟩
  have flight' : ((s.closed n stages).col n).engine.inFlight = some t := by rw [closed_col]; exact flight
  rw [exec_endsClosing ends closing, endClosing_some flight', closed_col]
  exact congrArg _ (retryOrEnd_ends spent _)

/-- R81: the walk has no part in the result of a roll call's transaction. -/
theorem handResult_roll (requester : t.requester = .procedure) (idle : (s.col n).walk.phase = .idle)
    (p : TransactionReport) :
    handResult n t p s = rollResult n p s := by
  simp only [handResult, requester, idle, if_true]

theorem handResult_walk (requester : t.requester = .procedure) (walking : (s.col n).walk.phase ≠ .idle)
    (p : TransactionReport) : handResult n t p s = walkResult n t p s := by
  simp only [handResult, requester, walking, if_false]

end

/-! ## A period's work (R134, R135, R137) -/

section

variable {n : Lane} {s : State}

/-- R135: a sweep is to be made. -/
theorem sweeps_iff (s : State) (n : Lane) :
    s.sweeps n = true ↔ s.settings.sweep = true ∧ (s.col n).roll.used < s.settings.sweepBudget := by
  simp [State.sweeps]

theorem startWork_sweeps (h : s.sweeps n = true) :
    startWork n s = s.withColumn n
      { s.col n with
        roll := { (s.col n).roll with phase := .sweeping, position := none }
        arbiter := { (s.col n).arbiter with procedure := some enrolRequest } } := by
  simp [startWork, h, placeRequest, updates_eq]

theorem placeProbe_eq (n : Lane) (h : Nat) (s : State) :
    placeProbe n h s = s.withColumn n
      { s.col n with
        roll := { (s.col n).roll with phase := .probing, position := some h }
        arbiter := { (s.col n).arbiter with procedure := some (probeRequest h) } } := by
  simp [placeProbe, placeRequest, updates_eq]

theorem startWork_probes (off : s.sweeps n = false) {h : Nat} (next : s.nextProbe n = some h) :
    startWork n s = placeProbe n h s := by
  simp [startWork, off, next]

theorem startWork_rests (off : s.sweeps n = false) (next : s.nextProbe n = none) : startWork n s = restRoll n s := by
  simp [startWork, off, next]

theorem restRoll_eq (n : Lane) (s : State) :
    restRoll n s = s.withColumn n { s.col n with roll := { (s.col n).roll with phase := .waiting, position := none } } := rfl

theorem probeNext_some {h : Nat} (next : s.nextProbe n = some h) : probeNext n s = placeProbe n h s := by
  simp [probeNext, next]

theorem probeNext_none (next : s.nextProbe n = none) : probeNext n s = endWork n s := by
  simp [probeNext, next]

/-- R137: whether a handle is above a probe position. -/
def aboveProbe (position : Option Nat) (h : Nat) : Bool := position.all fun p => p < h

theorem nextProbe_eq (s : State) (n : Lane) :
    s.nextProbe n = (s.probedHandles n).find? (aboveProbe (s.col n).roll.position) := by
  unfold State.nextProbe
  congr 1
  funext h
  cases (s.col n).roll.position <;> rfl

theorem probedHandles_ascending (inv : TableInv s) (n : Lane) : (s.probedHandles n).Pairwise (· < ·) := by
  refine List.pairwise_map.mpr (((inv.ordered.filter _).filter _).imp_of_mem fun {a b} ha hb ahead => ?_)
  have la := (mem_ofLane.mp (List.mem_filter.mp ha).1).2
  have lb := (mem_ofLane.mp (List.mem_filter.mp hb).1).2
  obtain less | ⟨_, less⟩ := (before_iff _ _).mp ahead
  · rw [la, lb] at less
    exact absurd less (Nat.lt_irrefl _)
  · exact less

/-- R137: the next PROBE is to the lowest handle of a PRESENT or LOST entry above the position, of a table with the
handles of
`s`. -/
theorem nextProbe_some {y : State} (inv : TableInv s)
    (handles : y.probedHandles n = s.probedHandles n) {position : Option Nat}
    (stands : (y.col n).roll.position = position) {e : Entry} (own : e ∈ s.table.ofLane n) (bound : e.state ≠ .away)
    (above : aboveProbe position e.key.handle = true)
    (least : ∀ x ∈ s.table.ofLane n, x.state ≠ .away → aboveProbe position x.key.handle = true →
      e.key.handle ≤ x.key.handle) :
    y.nextProbe n = some e.key.handle := by
  rw [nextProbe_eq, handles, stands]
  have mem : e.key.handle ∈ s.probedHandles n := mem_probedHandles.mpr ⟨e, own, rfl, bound⟩
  have some : ((s.probedHandles n).find? (aboveProbe position)).isSome = true :=
    List.find?_isSome.mpr ⟨e.key.handle, mem, above⟩
  obtain ⟨h, found⟩ := Option.isSome_iff_exists.mp some
  obtain ⟨test, before, after, list, early⟩ := List.find?_eq_some_iff_append.mp found
  have mem' : h ∈ s.probedHandles n := by rw [list]; simp
  obtain ⟨x, ownX, rfl, boundX⟩ := mem_probedHandles.mp mem'
  have le := least x ownX boundX test
  have ordered := probedHandles_ascending inv n
  rw [list] at ordered mem
  obtain first | same | last : e.key.handle ∈ before ∨ e.key.handle = x.key.handle ∨ e.key.handle ∈ after := by
    simpa using mem
  · have failed := early _ first
    rw [above] at failed
    exact absurd failed (by decide)
  · rw [found, same]
  · have less := (List.pairwise_cons.mp (List.pairwise_append.mp ordered).2.1).1 _ last
    exact absurd le (Nat.not_le.mpr less)

theorem nextProbe_none {y : State} (handles : y.probedHandles n = s.probedHandles n) {position : Option Nat}
    (stands : (y.col n).roll.position = position)
    (nobody : ∀ x ∈ s.table.ofLane n, x.state ≠ .away → aboveProbe position x.key.handle ≠ true) : y.nextProbe n = none := by
  rw [nextProbe_eq, handles, stands]
  refine List.find?_eq_none.mpr fun h mem => ?_
  obtain ⟨x, own, rfl, bound⟩ := mem_probedHandles.mp mem
  exact nobody x own bound

end

/-- Settles O41. -/
theorem rollCallPeriodExpires : Obligations.RollCallPeriodExpires := by
  unfold Obligations.RollCallPeriodExpires
  intro n e s running a restarted next sweeps busy asks
  have taken : next = .next (lineGrant n (periodExpiry n s)) := by
    simp only [next, exec, execRollCallPeriodExpiry, running, if_true]
  let u := s.withColumn n { s.col n with roll := restarted }
  have hu : u = s.withColumn n { s.col n with roll := restarted } := rfl
  have col : u.col n = { s.col n with roll := restarted } := withColumn_col _ _ _
  have works (waiting : (s.col n).roll.phase = .waiting) : periodExpiry n s = startWork n u := by
    simp only [periodExpiry, waiting]
    rfl
  have grants {roll : RollCall} {r : LineRequest} (placed : periodExpiry n s =
      s.withColumn n { s.col n with roll, arbiter := { a with procedure := some r } }) : asks roll r := by
    rw [placed, lineGrant_withColumn] at taken
    refine ⟨fun isBusy => ?_, fun idle transfer => ?_⟩
    · refine taken.trans (congrArg (fun c => Host.Outcome.next (s.withColumn n c)) (lineGranted_busy ?_ _ _))
      exact isBusy
    · refine taken.trans (congrArg (fun c => Host.Outcome.next (s.withColumn n c)) (lineGranted_procedure ?_ rfl ?_ _ _))
      · exact Classical.not_not.mp idle
      · exact transfer
  have rests {roll : RollCall} (placed : periodExpiry n s = s.withColumn n { s.col n with roll })
      (quiet : busy ∨ (a.procedure = none ∧ a.transfer = none)) : next = .next (s.withColumn n { s.col n with roll }) := by
    rw [placed, lineGrant_withColumn] at taken
    refine taken.trans (congrArg (fun c => Host.Outcome.next (s.withColumn n c)) ?_)
    obtain isBusy | ⟨procedure, transfer⟩ := quiet
    · refine lineGranted_busy ?_ _ _
      exact isBusy
    · refine lineGranted_nothing ?_ ?_ _ _
      · exact procedure
      · exact transfer
  have sweep_iff : u.sweeps n = true ↔ sweeps := by
    rw [sweeps_iff, col]
    rfl
  refine ⟨fun waiting on => grants ?_, fun waiting off start inv own bound least => grants ?_,
    fun waiting off away => ?_, fun phase quiet => ?_⟩
  · rw [works waiting, startWork_sweeps (sweep_iff.mpr on), col, hu, withColumn_withColumn]
  · have stands : (u.col n).roll.position = none := by rw [col]; exact start
    have found := nextProbe_some (y := u) inv rfl stands own bound rfl fun x ownX boundX _ => least x ownX boundX
    rw [works waiting, startWork_probes (by rw [← Bool.not_eq_true, sweep_iff]; exact off) found, placeProbe_eq, col, hu,
      withColumn_withColumn]
  · have found : u.nextProbe n = none := nextProbe_none (s := s) rfl rfl fun x own bound => absurd (away x own) bound
    refine rests ?_
    rw [works waiting, startWork_rests (by rw [← Bool.not_eq_true, sweep_iff]; exact off) found, restRoll_eq, col, hu,
      withColumn_withColumn]
  · refine rests ?_ quiet
    obtain sweeping | probing := phase
    · simp [periodExpiry, sweeping, updates_eq, restarted]
    · simp [periodExpiry, probing, updates_eq, restarted]

end Sys2Proof.Machine
end

section
/-!
The sweep's end (R12, R136, R137), and the results and grants that the ends of roll call's and the walk's transactions share.
-/

namespace Sys2Proof.Machine

/-! ## Results of attempts (R60, R75, R76) -/

theorem headD_eq (acks : List Bool) : acks.headD false = acks.getD 0 false := by cases acks <;> rfl

/-- R60: nobody acknowledges the header. -/
theorem result_unheard {acks : List Bool} (unheard : acks.headD false = false) (r : LineRequest) (bytes : List Byte) :
    r.result acks bytes = { outcome := .noAck, failedByte := some 1, bytesRead := none, bitTimes := 11 } :=
  result_nak r 0 acks bytes (Nat.zero_le _) (fun _ hi => absurd hi (Nat.not_lt_zero _)) (headD_eq acks ▸ unheard)

/-- R67, R69: an ENROL that is acknowledged reads a record and its check byte. -/
theorem result_enrol {acks : List Bool} {record : List Byte} (heard : acks.headD false = true) (whole : record.length = 8) :
    enrolRequest.result acks record =
      { outcome := if crc8 (record.take 7) = record.getLastD 0 then .done else .badCheck
        failedByte := none, bytesRead := some record, bitTimes := 83 } := by
  have given : ∀ i < 1 + enrolRequest.out.length, acks.getD i false = true := fun i hi => by
    obtain rfl : i = 0 := Nat.lt_one_iff.mp hi
    rw [← headD_eq, heard]
  have expected : bytesHeard enrolRequest.expected record = record := by
    rw [show enrolRequest.expected = record.length from whole.symm, bytesHeard_self]
  have good : checkGood record = true ↔ crc8 (record.take 7) = record.getLastD 0 := by
    have some : record.isEmpty = false := by
      cases record with
      | nil => cases whole
      | cons => rfl
    rw [checkGood, some, Bool.false_or, beq_iff_eq, List.dropLast_eq_take, whole]
  rw [result_acked _ _ _ given, expected]
  simp only [good]
  rfl

/-- R79: an ENROL has one attempt. -/
theorem enrol_spent {t : Transaction} (enrol : t.request = enrolRequest) (first : 1 ≤ t.attempt) :
    ¬t.attempt < t.allowed := by
  have one : t.allowed = 1 := by simp [Transaction.allowed, enrol, enrolRequest]
  omega

/-- R80: only a PEEK is refused at its offset. -/
theorem refusedOffset_other {t : Transaction} (other : t.request.call ≠ .peek) (r : AttemptResult) :
    t.refusedOffset r = false := by
  simp [Transaction.refusedOffset, other]

/-- R82, R117: a line error at handle 0 is no entry's. -/
theorem countLineError_nobody {s : State} (inv : TableInv s) (n : Lane) : countLineError ⟨n, 0⟩ s = s := by
  refine countLineError_none (List.find?_eq_none.mpr fun e mem same => ?_)
  have key : e.key = ⟨n, 0⟩ := by simpa using same
  have handle := (inv.entries e mem).handle.1
  rw [key] at handle
  exact absurd handle (Nat.not_succ_le_zero 0)

/-! ## An engine that goes to rest and is granted anew (R84, R85) -/

section

variable (c : Column) (roll : RollCall) {p q : LineRequest} (g : Settings) (n : Lane)

/-- R81: a column whose engine has gone to rest, with roll call gone on. -/
def Column.polling (c : Column) (roll : RollCall) : Column := { c with engine := c.engine.rest, roll }

theorem polling_asks (procedure : c.arbiter.procedure = none) (transfer : c.arbiter.transfer = none) :
    Column.lineGranted
        { c.polling roll with arbiter := { c.arbiter with procedure := some p } } g n =
      { c with
        roll, engine := c.engine.granted g n .procedure p, arbiter := { c.arbiter with lastGrant := .procedure } } := by
  have arbiter : ({ c.arbiter with lastGrant := .procedure } : LineArbiter) =
      { procedure := none, transfer := none, lastGrant := .procedure } := by simp [procedure, transfer]
  rw [lineGranted_procedure ?_ rfl ?_, arbiter]
  · rfl
  · rfl
  · exact transfer

theorem polling_asks_after (transfer : c.arbiter.transfer = some q) (last : c.arbiter.lastGrant ≠ .transfer) :
    Column.lineGranted
        { c.polling roll with arbiter := { c.arbiter with procedure := some p } } g n =
      { c with
        roll, engine := c.engine.granted g n .transfer q
        arbiter := { procedure := some p, transfer := none, lastGrant := .transfer } } := by
  rw [lineGranted_both ?_ rfl ?_, if_neg ?_]
  · rfl
  · exact last
  · rfl
  · exact transfer

theorem polling_rests (procedure : c.arbiter.procedure = none) (transfer : c.arbiter.transfer = none) :
    Column.lineGranted (c.polling roll) g n = { c with roll, engine := c.engine.rest } := by
  rw [lineGranted_nothing ?_ ?_]
  · rfl
  · exact procedure
  · exact transfer

end

/-! ## The next PROBE, or the end of the work (R134, R137) -/

section

variable {n : Lane} {x : State} {roll : RollCall}

/-- R81: a state in which a lane's engine has gone to rest and roll call goes on with `roll`. -/
def State.polls (x : State) (n : Lane) (roll : RollCall) : State := x.withColumn n ((x.col n).polling roll)

theorem rest_polls (x : State) (n : Lane) : x.modEngine n Engine.rest = x.polls n (x.col n).roll := rfl

@[simp] theorem polls_col (x : State) (n : Lane) (roll : RollCall) : (x.polls n roll).col n = (x.col n).polling roll :=
  withColumn_col _ _ _

@[simp] theorem polls_withColumn (x : State) (n : Lane) (roll : RollCall) (c : Column) :
    (x.polls n roll).withColumn n c = x.withColumn n c := withColumn_withColumn _ _ _ _

theorem polls_modRoll (x : State) (n : Lane) (roll : RollCall) (f : RollCall → RollCall) :
    (x.polls n roll).modRoll n f = x.polls n (f roll) := by
  simp [updates_eq, State.polls, Column.polling]

/-- R137: the next PROBE is granted, after a chunk that waits if the last grant was not TRANSFER. -/
theorem probeNext_asks {h : Nat} (next : (x.polls n roll).nextProbe n = some h) :
    ((x.col n).arbiter.procedure = none → (x.col n).arbiter.transfer = none →
      lineGrant n (probeNext n (x.polls n roll)) = x.withColumn n
        { x.col n with
          roll := { roll with phase := .probing, position := some h }
          engine := (x.col n).engine.granted x.settings n .procedure (probeRequest h)
          arbiter := { (x.col n).arbiter with lastGrant := .procedure } }) ∧
      ∀ q, (x.col n).arbiter.transfer = some q → (x.col n).arbiter.lastGrant ≠ .transfer →
        lineGrant n (probeNext n (x.polls n roll)) = x.withColumn n
          { x.col n with
            roll := { roll with phase := .probing, position := some h }
            engine := (x.col n).engine.granted x.settings n .transfer q
            arbiter := { procedure := some (probeRequest h), transfer := none, lastGrant := .transfer } } := by
  have placed : probeNext n (x.polls n roll) = x.withColumn n
      { (x.col n).polling { roll with phase := .probing, position := some h } with
        arbiter := { (x.col n).arbiter with procedure := some (probeRequest h) } } := by
    rw [probeNext_some next, placeProbe_eq, polls_col, polls_withColumn]
    rfl
  rw [placed, lineGrant_withColumn]
  exact ⟨fun procedure transfer => congrArg _ (polling_asks _ _ _ _ procedure transfer),
    fun q transfer last => congrArg _ (polling_asks_after _ _ _ _ transfer last)⟩

section

variable (nobody : (x.polls n roll).nextProbe n = none)
include nobody

/-- R134: a deferred period's work starts. -/
theorem probeNext_deferred (deferred : roll.deferred = true) :
    probeNext n (x.polls n roll) = startWork n (x.polls n { roll with deferred := false, position := none }) := by
  have isDeferred : ((x.polls n roll).col n).roll.deferred = true := by rw [polls_col]; exact deferred
  rw [probeNext_none nobody, endWork, isDeferred, if_pos rfl]
  exact congrArg _ (polls_modRoll x n roll fun r => { r with deferred := false, position := none })

variable (procedure : (x.col n).arbiter.procedure = none) (transfer : (x.col n).arbiter.transfer = none)
include procedure transfer

/-- R134, R137: with nobody left to probe and no period deferred the unit rests. -/
theorem probeNext_rests (now : roll.deferred = false) :
    lineGrant n (probeNext n (x.polls n roll)) = x.withColumn n
      { x.col n with roll := { roll with phase := .waiting, position := none }, engine := (x.col n).engine.rest } := by
  have rests : probeNext n (x.polls n roll) = x.polls n { roll with phase := .waiting, position := none } := by
    have notDeferred : ((x.polls n roll).col n).roll.deferred = false := by rw [polls_col]; exact now
    rw [probeNext_none nobody, endWork, notDeferred]
    exact polls_modRoll x n roll fun r => { r with phase := .waiting, position := none }
  rw [rests, State.polls, lineGrant_withColumn, polling_rests _ _ _ _ procedure transfer]

theorem probeNext_sweeps (deferred : roll.deferred = true)
    (on : x.settings.sweep = true ∧ roll.used < x.settings.sweepBudget) :
    lineGrant n (probeNext n (x.polls n roll)) = x.withColumn n
      { x.col n with
        roll := { roll with phase := .sweeping, deferred := false, position := none }
        engine := (x.col n).engine.granted x.settings n .procedure enrolRequest
        arbiter := { (x.col n).arbiter with lastGrant := .procedure } } := by
  have sweeps : (x.polls n { roll with deferred := false, position := none }).sweeps n = true := by
    rw [sweeps_iff, polls_col]
    exact on
  have placed : probeNext n (x.polls n roll) = x.withColumn n
      { (x.col n).polling { roll with phase := .sweeping, deferred := false, position := none } with
        arbiter := { (x.col n).arbiter with procedure := some enrolRequest } } := by
    rw [probeNext_deferred nobody deferred, startWork_sweeps sweeps, polls_col, polls_withColumn]
    rfl
  rw [placed, lineGrant_withColumn, polling_asks _ _ _ _ procedure transfer]

theorem probeNext_idle (deferred : roll.deferred = true)
    (off : ¬(x.settings.sweep = true ∧ roll.used < x.settings.sweepBudget))
    (alone : (x.polls n { roll with deferred := false, position := none }).nextProbe n = none) :
    lineGrant n (probeNext n (x.polls n roll)) = x.withColumn n
      { x.col n with
        roll := { roll with phase := .waiting, deferred := false, position := none }, engine := (x.col n).engine.rest } := by
  have sweeps : (x.polls n { roll with deferred := false, position := none }).sweeps n = false := by
    rw [← Bool.not_eq_true, sweeps_iff, polls_col]
    exact off
  have rests : probeNext n (x.polls n roll) = x.polls n { roll with phase := .waiting, deferred := false, position := none } := by
    rw [probeNext_deferred nobody deferred, startWork_rests sweeps alone]
    exact polls_modRoll x n _ fun r => { r with phase := .waiting, position := none }
  rw [rests, State.polls, lineGrant_withColumn, polling_rests _ _ _ _ procedure transfer]

end

end

theorem withColumn_moves {n : Lane} {s t : State} (h : LaneMoves n s t) (c : Column) : LaneMoves n s (t.withColumn n c) :=
  h.modCol fun _ => c

/-! ## A re-walk (R12, R86, R92, R133) -/

theorem granted_abort (e : Engine) (g : Settings) (n : Lane) (q : Requester) (r : LineRequest) :
    e.abort.granted g n q r = e.granted g n q r := by
  rw [abort_eq]
  split <;> rfl

theorem abort_rest (e : Engine) : e.rest.abort = e.rest := rfl

/-- R12, R92: with no read in flight and the engine at rest, a lane that is walked again for a sweep answer has its opening
RELEASE granted. -/
theorem sweepRewalk_granted {n : Lane} {s u : State} (moves : LaneMoves n s u) (state : u.laneState n = s.laneState n)
    (free : (u.col n).slot = .free) (idle : (u.col n).engine.phase = .idle) :
    lineGrant n (sweepRewalk n u) =
      toldNaming s (raise (stateNotice n .walking .sweepAnswer) (u.withColumn n
        ((u.col n).rewalked (u.col n).roll.used
          ((u.col n).engine.granted u.settings n .procedure (releaseRequest 31))))) := by
  have left : leaveReady n u = u.withColumn n
      { u.col n with
        ctl := { (u.col n).ctl with rewalkWaiting := false }
        engine := (u.col n).engine.abort
        arbiter := LineArbiter.reset
        slot := .free
        roll := (u.col n).roll.stopped } := by
    simp [leaveReady_eq, free, Column.goneReplies, State.modPort]
    rfl
  have idle' : (u.col n).engine.abort.phase = .idle := by
    rw [abort_eq, if_pos (.inl idle)]
    exact idle
  rw [sweepRewalk, enterWalking_told (leaveReady_moves moves) (by rw [left]; simpa [State.laneState] using state),
    lineGrant_toldNaming, lineGrant_raise, lineGrant_withColumn, left, withColumn_col, withColumn_withColumn,
    withColumn_settings, lineGranted_procedure ?_ rfl rfl]
  · simp only [granted_abort]
    rfl
  · exact idle'

/-! ## The sweep (R135, R136) -/

/-- Settles O42. -/
theorem sweepIsJudged : Obligations.SweepIsJudged := by
  unfold Obligations.SweepIsJudged
  intro n t r q record acks e o c closing s flight enrol requester first noWalk sweeping inv procedure a roll used result next
    stages probes
  have spent := enrol_spent enrol first
  have judged (x : State) (p : TransactionReport) (walk : (x.col n).walk.phase = .idle)
      (phase : (x.col n).roll.phase = .sweeping) :
      handResult n t p (x.modEngine n Engine.rest) = sweepResult n p (x.modEngine n Engine.rest) := by
    rw [handResult_roll requester (by simpa using walk), rollResult, State.modEngine_col]
    simp only [phase]
  have unanswered (engine : Engine) (x : State) (hx : x = s.withColumn n { s.col n with engine }) :
      probes engine (.next (lineGrant n (probeNext n (x.polls n { roll with phase := .probing, position := none })))) := by
    have col : x.col n = { s.col n with engine } := by rw [hx, withColumn_col]
    have settings : x.settings = s.settings := by rw [hx, withColumn_settings]
    have replaced (c : Column) : x.withColumn n c = s.withColumn n c := by rw [hx, withColumn_withColumn]
    have handles (roll : RollCall) : (x.polls n roll).probedHandles n = s.probedHandles n := by rw [hx]; rfl
    have stands (roll : RollCall) : ((x.polls n roll).col n).roll = roll := by rw [polls_col]; rfl
    have alone (away : ∀ e ∈ s.table.ofLane n, e.state = .away) {roll : RollCall} (start : roll.position = none) :
        (x.polls n roll).nextProbe n = none :=
      nextProbe_none (handles _) ((congrArg RollCall.position (stands _)).trans start) fun y own bound =>
        absurd (away y own) bound
    refine ⟨fun own bound least => ?_, fun away transfer now => ?_,
      fun away transfer deferred => ⟨fun on => ?_, fun off => ?_⟩⟩
    · have asks := probeNext_asks (x := x) (nextProbe_some inv (handles _) (congrArg RollCall.position (stands
        { roll with phase := .probing, position := none })) own bound rfl fun y ownY boundY _ => least y ownY boundY)
      rw [col, settings] at asks
      simp only [replaced] at asks
      exact ⟨fun transfer => congrArg _ (asks.1 procedure transfer),
        fun transfer last => congrArg _ (asks.2 q transfer last)⟩
    · have rests := probeNext_rests (x := x) (alone away rfl) (by rw [col]; exact procedure) (by rw [col]; exact transfer)
        (roll := { roll with phase := .probing, position := none }) now
      rw [col, replaced] at rests
      exact congrArg _ rests
    · have sweep := probeNext_sweeps (x := x) (alone away rfl) (by rw [col]; exact procedure) (by rw [col]; exact transfer)
        (roll := { roll with phase := .probing, position := none }) deferred (by rw [settings]; exact on)
      rw [col, settings, replaced] at sweep
      exact congrArg _ sweep
    · have idle := probeNext_idle (x := x) (alone away rfl) (by rw [col]; exact procedure) (by rw [col]; exact transfer)
        (roll := { roll with phase := .probing, position := none }) deferred
        (by
          rw [settings]
          rintro ⟨on, below⟩
          obtain none | spent := off
          · rw [on] at none
            cases none
          · exact absurd below (Nat.not_lt.mpr spent)) (alone away rfl)
      rw [col, replaced] at idle
      exact congrArg _ idle
  have target : t.request.target = 0 := by rw [enrol]; rfl
  have notPeek : t.request.call ≠ .peek := by rw [enrol]; exact nofun
  have asked (x : State) (p : TransactionReport) (walk : (x.col n).walk.phase = .idle) (rolls : (x.col n).roll = roll)
      (answers : p.answers = false) : handResult n t p (x.modEngine n Engine.rest) =
        probeNext n (x.polls n { roll with phase := .probing, position := none }) := by
    rw [judged x p walk (by rw [rolls]; exact sweeping), sweepResult, answers, if_neg Bool.false_ne_true, rest_polls, rolls]
    exact congrArg (probeNext n) (polls_modRoll x n roll fun r => { r with phase := .probing, position := none })
  refine ⟨fun attempting whole => ?_, fun attempting unheard => ?_, fun ends closes failed cause => ?_⟩
  · have read : t.request.result (true :: acks) record = result := by
      rw [enrol]
      exact result_enrol rfl whole
    let x := s.handed n result stages
    have hx : x = s.handed n result stages := rfl
    have col : x.col n = { s.col n with engine := { (s.col n).engine with handed := some result, driven := stages } } :=
      handed_col _ _ _ _
    obtain ⟨p, answers, taken⟩ : ∃ p : TransactionReport, p.answers = true ∧
        next = .next (lineGrant n (handResult n t p (x.modEngine n Engine.rest))) := by
      by_cases good : crc8 (record.take 7) = record.getLastD 0
      · exact ⟨_, rfl, execAttemptEnd_done attempting flight read (if_pos good)⟩
      · have outcome : result.outcome = .badCheck := if_neg good
        have failed := execAttemptEnd_failed attempting flight read (by rw [outcome]; exact nofun)
          (refusedOffset_other notPeek _) spent
        rw [target, countLineError_nobody inv] at failed
        refine ⟨_, ?_, failed⟩
        simp only [TransactionReport.answers, Transaction.failedReport, TransactionReport.failedWith, outcome]
        rfl
    have answered : handResult n t p (x.modEngine n Engine.rest) = takeSweepAnswer n (x.polls n roll.answered) := by
      rw [judged x p (by rw [col]; exact noWalk) (by rw [col]; exact sweeping), sweepResult, answers, if_pos rfl, rest_polls]
      rw [col]
      exact congrArg (takeSweepAnswer n) (polls_modRoll x n roll RollCall.answered)
    rw [taken, answered]
    refine ⟨fun free transfer => ?_, fun busy transfer => ?_⟩
    · have slot : ((x.polls n roll.answered).col n).slot = .free := by rw [polls_col, col]; exact free
      have moves : LaneMoves n s (x.polls n roll.answered) := by
        rw [hx, State.polls, handed_withColumn]
        exact withColumn_moves .refl _
      have same : (x.polls n roll.answered).laneState n = s.laneState n := by
        rw [State.laneState, polls_col, col]
        rfl
      rw [takeSweepAnswer, slot]
      refine congrArg Host.Outcome.next ((sweepRewalk_granted moves same slot (by rw [polls_col]; rfl)).trans ?_)
      rw [polls_col, polls_withColumn, col, hx, handed_withColumn]
      rfl
    · have slot : ((x.polls n roll.answered).col n).slot = .busy r := by rw [polls_col, col]; exact busy
      have waits : takeSweepAnswer n (x.polls n roll.answered) = s.withColumn n
          { (x.col n).polling roll.answered with ctl := { (s.col n).ctl with rewalkWaiting := true } } := by
        rw [takeSweepAnswer, slot]
        simp only [updates_eq, polls_col, polls_withColumn, hx, handed_withColumn]
        rw [handed_col]
        rfl
      rw [waits, lineGrant_withColumn, lineGranted_transfer ?_ ?_ ?_, col]
      · rfl
      · rfl
      · rw [col]
        exact procedure
      · rw [col]
        exact transfer
  · have failed := execAttemptEnd_failed (bytes := record) attempting flight (result_unheard unheard _ _) (nofun)
      (refusedOffset_other notPeek _) spent
    rw [target, countLineError_nobody inv, asked _ _ (by simpa using noWalk) (by simp [roll]) rfl] at failed
    rw [failed]
    exact unanswered _ _ rfl
  · obtain ⟨r, cause', ended⟩ := exec_closingEnds closes ends flight spent
    have notAnswer : (t.failedReport r).answers = false := by
      rw [cause', failed]
      obtain rfl | rfl := cause <;> rfl
    rw [asked _ _ (by simpa using noWalk) (by simp [roll]) notAnswer] at ended
    rw [ended]
    exact unanswered _ _ rfl

end Sys2Proof.Machine
end

section
/-!
The statement on the ends of a PROBE (O43): what is written into the entry, and what roll call goes on with (R134,
R137, R138).
-/

namespace Sys2Proof.Machine

/-! ## Writes to an entry -/

section

variable {n : Lane} {s y : State} {k : EntryKey} {f : Entry → Entry}

/-- R137: a write that keeps what entries are bound keeps the handles to be probed. -/
theorem probedHandles_write (key : ∀ e, (f e).key = e.key) (bound : ∀ e, (f e).bound = e.bound)
    (table : y.table = s.table.write k f) : y.probedHandles n = s.probedHandles n := by
  have kept (e : Entry) : (if e.key = k then f e else e).key = e.key ∧ (if e.key = k then f e else e).bound = e.bound := by
    split
    · exact ⟨key e, bound e⟩
    · exact ⟨rfl, rfl⟩
  simp only [State.probedHandles, DeviceTable.ofLane, table, DeviceTable.write, List.filter_map, List.map_map,
    Function.comp_def, kept]

theorem find_write {t : DeviceTable} {e : Entry} (key : ∀ e, (f e).key = e.key) (found : t.find k = some e) :
    (t.write k f).find k = some (f e) := by
  have kept (e : Entry) : (if e.key = k then f e else e).key = e.key := by
    split
    · exact key e
    · rfl
  have own : e.key = k := by simpa using List.find?_some found
  have same : (t.write k f).find k = (t.find k).map fun e => if e.key = k then f e else e := by
    simp only [DeviceTable.find, DeviceTable.write, List.find?_map, Function.comp_def, kept]
  rw [same, found, Option.map_some, if_pos own]

/-- R82: what is counted keeps the handles to be probed. -/
theorem countLineError_probedHandles (k : EntryKey) (s : State) :
    (countLineError k s).probedHandles n = s.probedHandles n := by
  cases found : s.table.find k with
  | none => rw [countLineError_none found]
  | some e =>
    exact probedHandles_write (f := Entry.lineError s.settings.degradeThreshold) (fun _ => rfl) (fun _ => rfl)
      (by rw [countLineError_some found])

end

/-! ## A PROBE's result in its entry (R138) -/

section

variable {n : Lane} {h : Nat} {s : State} {p : TransactionReport}

theorem writeProbe_found {e : Entry} (found : s.table.find ⟨n, h⟩ = some e) :
    writeProbe n h p s =
      { s with
        table := s.table.write ⟨n, h⟩ (probed s.settings.lossCount p)
        port := { s.port with
          notices := rosterIn n 0 0 (if (probed s.settings.lossCount p e).state = e.state then 0 else 1) s.port.notices } } := by
  simp only [writeProbe, found, raiseRoster_eq]
  rfl

theorem writeProbe_withColumn (n : Lane) (h : Nat) (p : TransactionReport) (s : State) (c : Column) :
    writeProbe n h p (s.withColumn n c) = (writeProbe n h p s).withColumn n c := by
  cases found : s.table.find ⟨n, h⟩ with
  | none => simp only [writeProbe, withColumn_table, found]
  | some e =>
    rw [writeProbe_found found, writeProbe_found (s := s.withColumn n c) found]
    rfl

theorem writeProbe_polls (n : Lane) (h : Nat) (p : TransactionReport) (x : State) (roll : RollCall) :
    writeProbe n h p (x.polls n roll) = (writeProbe n h p x).polls n roll := by
  rw [State.polls, writeProbe_withColumn, State.polls]
  simp only [State.col, writeProbe_columns]

theorem writeProbe_handed (n : Lane) (h : Nat) (p : TransactionReport) (x : State) (r : AttemptResult)
    (stages : List WireStage) : writeProbe n h p (x.handed n r stages) = (writeProbe n h p x).handed n r stages := by
  rw [State.handed, writeProbe_withColumn, State.handed]
  simp only [State.col, writeProbe_columns]

theorem writeProbe_closed (n : Lane) (h : Nat) (p : TransactionReport) (x : State) (stages : List WireStage) :
    writeProbe n h p (x.closed n stages) = (writeProbe n h p x).closed n stages := by
  rw [State.closed, writeProbe_withColumn, State.closed]
  simp only [State.col, writeProbe_columns]

theorem writeProbe_settings (n : Lane) (h : Nat) (p : TransactionReport) (x : State) :
    (writeProbe n h p x).settings = x.settings := (writeProbe_moves (n := n) .refl h p).frame.settings

/-- R138: a PROBE's result makes no entry AWAY, and none PRESENT that was AWAY. -/
theorem probed_bound (loss : Nat) (p : TransactionReport) (e : Entry) :
    (probed loss p e).key = e.key ∧ (probed loss p e).bound = e.bound := by
  unfold probed
  split
  · cases state : e.state <;> simp [Entry.answered, Entry.bound, state]
  · refine ⟨rfl, ?_⟩
    cases state : e.state <;> simp only [Entry.missed, Entry.bound, state]
    split <;> rename_i lost <;> split at lost <;> first | rfl | cases lost

theorem writeProbe_probedHandles (m : Lane) (h : Nat) (p : TransactionReport) (x : State) :
    (writeProbe m h p x).probedHandles n = x.probedHandles n := by
  cases found : x.table.find ⟨m, h⟩ with
  | none => simp only [writeProbe, found]
  | some e =>
    exact probedHandles_write (fun e => (probed_bound _ p e).1) (fun e => (probed_bound _ p e).2)
      (by rw [writeProbe_found found])

/-- R138: a PROBE ended DONE with a status byte. -/
theorem probed_done (loss : Nat) {status : Byte} (done : p.result = .done) (read : p.bytesRead = some [status]) :
    probed loss p = fun x =>
      { x with status := some status, miss := 0, state := if x.state = .away then .away else .present } := by
  funext x
  cases state : x.state <;> simp [probed, done, read, Entry.answered, state]

/-- R138: a PROBE failed. -/
theorem probed_missed (loss : Nat) (failed : p.result ≠ .done) :
    probed loss p = fun x =>
      { x with
        miss := min loss (x.miss + 1)
        state := if x.state = .present ∧ min loss (x.miss + 1) = loss then .lost else x.state } := by
  funext x
  by_cases limit : min loss (x.miss + 1) = loss <;> cases state : x.state <;>
    simp [probed, failed, Entry.missed, satAdd, state, limit]

end

/-! ## The result of a PROBE (R67, R71, R75) -/

/-- R67: the status byte of a PROBE comes with a check byte that is not its own. -/
theorem result_probe_bad {acks : List Bool} (heard : acks.headD false = true) {status check : Byte}
    (bad : check ≠ crc8 [status]) (h : Nat) :
    (probeRequest h).result acks [status, check] =
      { outcome := .badCheck, failedByte := none, bytesRead := some [status], bitTimes := 29 } := by
  have given : ∀ i < 1 + (probeRequest h).out.length, acks.getD i false = true := fun i hi => by
    obtain rfl : i = 0 := Nat.lt_one_iff.mp hi
    rw [← headD_eq, heard]
  have read : bytesHeard (probeRequest h).expected [status, check] = [status, check] := bytesHeard_self [status, check]
  have wrong : checkGood [status, check] = false := checkGood_bad (List.cons_ne_nil _ _) (by exact Ne.symm bad)
  rw [result_acked _ _ _ given, read, wrong]
  rfl

/-- R75: a PROBE that has read a status byte. -/
def probeAnswered (status : Byte) : AttemptResult :=
  { outcome := .done, failedByte := none, bytesRead := some [status], bitTimes := 29 }

theorem result_probe_good (status : Byte) (h : Nat) :
    (probeRequest h).result [true] [status, crc8 [status]] = probeAnswered status :=
  result_checked (data := [status])
    (fun i hi => by
      obtain rfl : i = 0 := Nat.lt_one_iff.mp hi
      rfl)
    (.inl rfl) rfl

theorem failedReport_result (t : Transaction) (r : AttemptResult) : (t.failedReport r).result ≠ .done := nofun

/-! ## The ends of a PROBE (R137, R138) -/

/-- Settles O43: what a PROBE's end writes to its entry, and then what the next PROBE, the sweep or the rest makes of it. -/
theorem probeIsJudged : Obligations.ProbeIsJudged := by
  unfold Obligations.ProbeIsJudged
  intro n t h status check acks bytes e z q c stages s flight probe requester noWalk probing position found bound inv procedure
    a roll next attempting handed goesOn missed
  have onwards (y : State) (engine : Engine) (col : y.col n = { s.col n with engine }) (settings : y.settings = s.settings)
      (handles : y.probedHandles n = s.probedHandles n) :
      goesOn y (.next (lineGrant n (probeNext n (y.polls n roll)))) := by
    have stands : ((y.polls n roll).col n).roll.position = some h := by rw [polls_col]; exact position
    have handles' : (y.polls n roll).probedHandles n = s.probedHandles n := handles
    have above (x : Entry) : aboveProbe (some h) x.key.handle = true ↔ h < x.key.handle := decide_eq_true_iff
    have nobody (last : ∀ x ∈ s.table.ofLane n, x.state = .away ∨ x.key.handle ≤ h) :
        (y.polls n roll).nextProbe n = none :=
      nextProbe_none handles' stands fun x own bound up =>
        absurd ((above x).mp up) (Nat.not_lt.mpr ((last x own).resolve_left bound))
    have none : (y.col n).arbiter.procedure = none := by rw [col]; exact procedure
    have waits : (y.col n).arbiter = a := by rw [col]
    refine ⟨fun last now transfer => ?_, fun last deferred transfer on below => ?_, fun own bound more next => ?_⟩
    · exact congrArg _ (probeNext_rests (nobody last) none (waits ▸ transfer) now)
    · have sweep := probeNext_sweeps (nobody last) none (waits ▸ transfer) deferred (by rw [settings]; exact ⟨on, below⟩)
      rw [waits, settings] at sweep
      exact congrArg _ sweep
    · have asks := probeNext_asks (x := y) (nextProbe_some inv handles' stands own bound ((above z).mpr more)
        fun x ownX boundX aboveX => by
          obtain away | low | high := next x ownX
          · exact absurd away boundX
          · exact absurd ((above x).mp aboveX) (Nat.not_lt.mpr low)
          · exact high)
      rw [waits, settings] at asks
      have continues : ({ roll with phase := .probing, position := some z.key.handle } : RollCall) =
          { roll with position := some z.key.handle } := by rw [← probing]
      rw [continues] at asks
      exact ⟨fun transfer => congrArg _ (asks.1 procedure transfer),
        fun transfer last => congrArg _ (asks.2 q transfer last)⟩
  have judged (x : State) (p : TransactionReport) (engine : Engine) (col : x.col n = { s.col n with engine }) :
      handResult n t p (x.modEngine n Engine.rest) = probeNext n ((writeProbe n h p x).polls n roll) := by
    have rests : x.modEngine n Engine.rest = x.polls n roll := by rw [rest_polls, col]
    have phase : ((x.polls n roll).col n).roll.phase = .probing := by rw [polls_col]; exact probing
    have stands : ((x.polls n roll).col n).roll.position = some h := by rw [polls_col]; exact position
    rw [rests, handResult_roll requester (by rw [polls_col, col]; exact noWalk), rollResult, phase, probeResult, stands,
      ← writeProbe_polls]
  have target : t.request.target = h := by rw [probe]; rfl
  have notPeek : t.request.call ≠ .peek := by rw [probe]; exact nofun
  have spent (last : t.retryLimit < t.attempt) : ¬t.attempt < t.allowed := by
    rw [allowed_retried (by rw [probe]; exact nofun) (by rw [probe]; exact nofun)]
    omega
  have ended (x : State) (p : TransactionReport) (engine : Engine) (col : x.col n = { s.col n with engine })
      (settings : x.settings = s.settings) (handles : x.probedHandles n = s.probedHandles n) :
      goesOn (writeProbe n h p x) (.next (lineGrant n (handResult n t p (x.modEngine n Engine.rest)))) := by
    rw [judged x p engine col]
    refine onwards _ engine ?_ ((writeProbe_settings n h p x).trans settings) ((writeProbe_probedHandles n h p x).trans handles)
    rw [← col]
    simp only [State.col, writeProbe_columns]
  have missed_eq (y : State) (p : TransactionReport) (failed : p.result ≠ .done) (settings : y.settings = s.settings)
      {d : Entry} (there : y.table.find ⟨n, h⟩ = some d) (state : d.state = e.state) (miss : d.miss = e.miss) :
      writeProbe n h p y = missed y := by
    rw [writeProbe_found there, probed_missed _ failed, congrArg Settings.lossCount settings]
    have told : (if (if d.state = .present ∧ min s.settings.lossCount (d.miss + 1) = s.settings.lossCount then EntryState.lost
        else d.state) = d.state then 0 else 1) =
        if e.state = .present ∧ min s.settings.lossCount (e.miss + 1) = s.settings.lossCount then 1 else 0 := by
      rw [state, miss]
      split <;> rename_i lost
      · rw [lost.1]
        rfl
      · exact if_pos rfl
    simp only [told]
    rfl
  have counted (y : State) (table : y.table = s.table) : ∃ d, (countLineError ⟨n, h⟩ y).table.find ⟨n, h⟩ = some d ∧
      d.state = e.state ∧ d.miss = e.miss := by
    have there : y.table.find ⟨n, h⟩ = some e := table ▸ found
    refine ⟨Entry.lineError y.settings.degradeThreshold e, ?_, rfl, rfl⟩
    rw [countLineError_some there]
    exact find_write (fun _ => rfl) there
  have failedEnd (result : AttemptResult) (read : t.request.result acks bytes = result) (bad : result.outcome ≠ .done)
      (attempt : attempting) (last : t.retryLimit < t.attempt) :
          goesOn (handed result (missed (countLineError ⟨n, h⟩ s))) next := by
    have failed := execAttemptEnd_failed attempt flight read bad (refusedOffset_other notPeek _) (spent last)
    rw [target] at failed
    obtain ⟨d, there, state, miss⟩ := counted s rfl
    have after := ended ((countLineError ⟨n, h⟩ s).handed n result (t.request.run acks bytes).stages) (t.failedReport result)
      { (s.col n).engine with handed := some result, driven := (t.request.run acks bytes).stages }
      (by rw [handed_col, countLineError_col]) (countLineError_settings _ _) (countLineError_probedHandles _ _)
    rw [writeProbe_handed, missed_eq _ _ (failedReport_result t result) (countLineError_settings _ _) there state miss,
      ← failed] at after
    exact after
  refine ⟨fun attempt heard read => ?_, fun attempt unheard last => ?_, fun attempt heard read bad last => ?_,
    fun closing ends last => ?_⟩
  · subst heard read
    have result : t.request.result [true] [status, crc8 [status]] = probeAnswered status := by rw [probe, result_probe_good]
    have after := ended (s.handed n (probeAnswered status) (t.request.run [true] [status, crc8 [status]]).stages)
      (t.doneReport (probeAnswered status)) _ (handed_col _ _ _ _) rfl rfl
    rw [writeProbe_handed, writeProbe_found found, probed_done _ rfl rfl,
      ← execAttemptEnd_done attempt flight result rfl] at after
    have told : (if (if e.state = .away then EntryState.away else .present) = e.state then 0 else 1) =
        if e.state = .lost then 1 else 0 := by
      cases state : e.state
      case away => exact absurd state bound
      all_goals rfl
    simp only [told] at after
    exact after
  · exact failedEnd _ (result_unheard unheard _ _) nofun attempt last
  · exact failedEnd _ (by rw [probe, read, result_probe_bad heard bad]) nofun attempt last
  · obtain ⟨r, _, closed⟩ := exec_closingEnds ends closing flight (spent last)
    have after := ended (s.closed n stages) (t.failedReport r) _ (closed_col _ _ _) rfl rfl
    rw [writeProbe_closed, missed_eq s _ (failedReport_result t r) rfl found rfl rfl, ← closed] at after
    exact after

end Sys2Proof.Machine
end

section
/-!
The statement on the ends of a read's chunks (O44): the next chunk, and the reply with which a read ends (R12, R80,
R88, R89).
-/

namespace Sys2Proof.Machine

/-! ## A refused offset (R80) -/

theorem execAttemptEnd_refused {n : Lane} {t : Transaction} {s : State}
    (attempting : (s.col n).engine.phase.attempting = true)
    (flight : (s.col n).engine.inFlight = some t) {acks : List Bool} {bytes : List Byte} {r : AttemptResult}
    (result : t.request.result acks bytes = r) (failed : r.outcome ≠ .done) (offset : t.refusedOffset r = true) :
    exec (.attemptEnd n acks bytes) s =
      .next (lineGrant n (handResult n t t.rangeReport
        ((s.handed n r (t.request.run acks bytes).stages).modEngine n Engine.rest))) := by
  rw [execAttemptEnd_taken attempting flight result, stopAttempt, if_neg failed, if_pos offset, endTransaction]

/-! ## The end of a read (R12, R89) -/

section

/-- R89: the state in which a lane's owed reply to a DEVICE_READ has been placed. -/
def State.answers (x : State) (n : Lane) (tag : Byte) (status : Status) (bytes : List Byte) : State :=
  x.modPort fun p =>
    { p with
      owed := p.owed.set n none
      replies := p.replies ++ [{ tag, code := 0x06, status, payload := BitVec.ofNat 8 bytes.length :: bytes }] }

/-- R81: a state in which a lane's engine has gone to rest and its transfer slot holds `slot`. -/
def State.slotted (x : State) (n : Lane) (slot : TransferSlot) : State :=
  x.withColumn n { x.col n with engine := (x.col n).engine.rest, slot }

variable {n : Lane} {s x : State} {tag : Byte} (owed : x.port.owed.get n = some tag) (slot : TransferSlot) (st : Status)
    (r : Read)
include owed

theorem endRead_slotted : endRead n st r (x.slotted n slot) = (x.slotted n .free).answers n tag st r.bytes := by
  rw [endRead_eq (s := x.slotted n slot) owed]
  simp only [State.slotted, withColumn_col, withColumn_withColumn]
  rfl

theorem finishRead_ends (waits : (x.col n).ctl.rewalkWaiting = false) (procedure : (x.col n).arbiter.procedure = none)
    (transfer : (x.col n).arbiter.transfer = none) :
    lineGrant n (finishRead n st r (x.slotted n slot)) = (x.slotted n .free).answers n tag st r.bytes := by
  have waits' : ((x.slotted n slot).col n).ctl.rewalkWaiting = false := by rw [State.slotted, withColumn_col]; exact waits
  have ended : finishRead n st r (x.slotted n slot) = (x.slotted n .free).answers n tag st r.bytes := by
    simp only [finishRead, waits', Bool.false_eq_true, if_false, endRead_slotted owed]
  rw [ended, State.answers, lineGrant_modPort, State.slotted, lineGrant_withColumn, lineGranted_nothing ?_ ?_]
  · exact procedure
  · exact transfer

theorem finishRead_walks (moves : LaneMoves n s x) (state : x.laneState n = s.laneState n)
    (waits : (x.col n).ctl.rewalkWaiting = true) :
    lineGrant n (finishRead n st r (x.slotted n slot)) =
      toldNaming s (raise (stateNotice n .walking .sweepAnswer) ((x.withColumn n
        ((x.col n).rewalked (x.col n).roll.used
          ((x.col n).engine.granted x.settings n .procedure (releaseRequest 31)))).answers n tag st r.bytes)) := by
  have waits' : ((x.slotted n slot).col n).ctl.rewalkWaiting = true := by rw [State.slotted, withColumn_col]; exact waits
  have ended : finishRead n st r (x.slotted n slot) = sweepRewalk n ((x.slotted n .free).answers n tag st r.bytes) := by
    simp only [finishRead, waits', if_true, endRead_slotted owed]
  have col : ((x.slotted n .free).answers n tag st r.bytes).col n =
      { x.col n with engine := (x.col n).engine.rest, slot := .free } := withColumn_col _ _ _
  have moves' : LaneMoves n s ((x.slotted n .free).answers n tag st r.bytes) :=
    endRead_slotted owed slot st r ▸ endRead_moves (withColumn_moves moves _) st r
  rw [ended, sweepRewalk_granted moves' ?_ ?_ ?_, col]
  · refine congrArg (fun y => toldNaming s (raise _ y)) ?_
    exact congrArg (State.answers · n tag st r.bytes) (withColumn_withColumn _ _ _ _)
  · rw [State.laneState, col]
    exact state
  · rw [col]
  · rw [col]
    rfl

end

/-! ## The chunks of a read (R72, R88) -/

theorem peek_expected {count : Nat} (h : Nat) (offset : Nat) (most : count ≤ 16) :
    (peekRequest h offset count).expected = count + 1 := by
  simp [LineRequest.expected, peekRequest]
  omega

/-- R72, R75: a PEEK that has read the bytes it asked for. -/
def peekAnswered (chunk : List Byte) : AttemptResult :=
  { outcome := .done, failedByte := none, bytesRead := some chunk, bitTimes := 38 + 9 * chunk.length }

theorem result_peek_good (h offset : Nat) {chunk : List Byte} (most : chunk.length ≤ 16) :
    (peekRequest h offset chunk.length).result [true, true, true] (chunk ++ [crc8 chunk]) = peekAnswered chunk := by
  have given : ∀ i < 1 + (peekRequest h offset chunk.length).out.length, [true, true, true].getD i false = true :=
    given_of_take (k := 3) rfl
  rw [result_checked given (.inr rfl) (peek_expected h offset most), peekAnswered]
  congr 1
  simp [peekRequest]
  omega

/-- R67: the bytes that a PEEK asked for come with a check byte that is not their own. -/
theorem result_peek_bad (h offset : Nat) {count : Nat} {bytes : List Byte} (most : count ≤ 16)
    (whole : bytes.length = count + 1)
    (bad : crc8 bytes.dropLast ≠ bytes.getLastD 0) :
    (peekRequest h offset count).result [true, true, true] bytes =
      { outcome := .badCheck, failedByte := none, bytesRead := some bytes.dropLast, bitTimes := 38 + 9 * count } := by
  have given : ∀ i < 1 + (peekRequest h offset count).out.length, [true, true, true].getD i false = true :=
    given_of_take (k := 3) rfl
  have some : bytes ≠ [] := List.ne_nil_of_length_pos (by omega)
  have heard : bytesHeard (peekRequest h offset count).expected bytes = bytes := by
    rw [peek_expected h offset most, ← whole, bytesHeard_self]
  rw [result_acked _ _ _ given, heard, checkGood_bad some bad, LineRequest.bytes, peek_expected h offset most]
  simp [LineRequest.handedBytes, peekRequest]
  omega

section

variable {n : Lane} {x : State} {r : Read} {p : TransactionReport}

theorem slotted_slot (x : State) (n : Lane) (slot : TransferSlot) : ((x.slotted n slot).col n).slot = slot := by
  rw [State.slotted, withColumn_col]

theorem rest_slotted {slot : TransferSlot} (holds : (x.col n).slot = slot) :
    x.modEngine n Engine.rest = x.slotted n slot := by
  subst holds
  rfl

theorem slotted_setSlot (x : State) (n : Lane) (slot other : TransferSlot) :
    (x.slotted n slot).setSlot n other = x.slotted n other := by
  simp [updates_eq, State.slotted]

/-- R89: a chunk that the device refuses, or that fails, ends the read. -/
theorem transferResult_refused (result : p.result = .range) :
    transferResult n p (x.slotted n (.busy r)) = finishRead n .range r (x.slotted n (.busy r)) := by
  simp only [transferResult, slotted_slot, result]

theorem transferResult_lineError (result : p.result = .failed) :
    transferResult n p (x.slotted n (.busy r)) = finishRead n .lineError r (x.slotted n (.busy r)) := by
  simp only [transferResult, slotted_slot, result]

section

variable {chunk : List Byte} (done : p.result = .done) (read : p.bytesRead = some chunk)
include done read

theorem transferResult_last (last : r.count = r.bytes.length + chunk.length) :
    transferResult n p (x.slotted n (.busy r)) =
      finishRead n .ok { r with bytes := r.bytes ++ chunk } (x.slotted n (.busy { r with bytes := r.bytes ++ chunk })) := by
  have whole : ({ r with bytes := r.bytes ++ chunk } : Read).remaining = 0 := by
    simp [Read.remaining, last]
  simp only [transferResult, slotted_slot, done, chunkDone, read, Option.getD_some, whole, if_true, slotted_setSlot]

theorem transferResult_more (more : r.bytes.length + chunk.length < r.count) :
    transferResult n p (x.slotted n (.busy r)) =
      placeChunk n { r with bytes := r.bytes ++ chunk } (x.slotted n (.busy { r with bytes := r.bytes ++ chunk })) := by
  have left : ({ r with bytes := r.bytes ++ chunk } : Read).remaining ≠ 0 := by
    simp only [Read.remaining, List.length_append]
    omega
  simp only [transferResult, slotted_slot, done, chunkDone, read, Option.getD_some, left, if_false, slotted_setSlot]

end

/-- R88: the PEEK that is placed for the next chunk of a read. -/
theorem placeChunk_slotted (x : State) (n : Lane) (r : Read) (chunk : List Byte) :
    placeChunk n { r with bytes := r.bytes ++ chunk } (x.slotted n (.busy { r with bytes := r.bytes ++ chunk })) =
      x.withColumn n
        { x.col n with
          engine := (x.col n).engine.rest
          slot := .busy { r with bytes := r.bytes ++ chunk }
          arbiter := { (x.col n).arbiter with
            transfer := some (peekRequest r.handle (r.offset + r.bytes.length + chunk.length)
              (min 16 (r.count - (r.bytes.length + chunk.length)))) } } := by
  simp [placeChunk, placeRequest, updates_eq, State.slotted, Read.next, Read.remaining, Config.chunkLimit, Nat.add_assoc]

end

/-- Settles O44: the ends of a read by `finishRead`, whatever ended it; the next chunk by the arbiter's choice. -/
theorem readChunksAreTaken : Obligations.ReadChunksAreTaken := by
  unfold Obligations.ReadChunksAreTaken
  intro n t r tag chunk p acks bytes c stages s flight peek requester busy owed one most transfer a got gotStages gotResult
    refused refusedStages refusedResult attempting answered ended walked finished failed
  have target : t.request.target = r.handle := by rw [peek]; rfl
  have spent (last : t.retryLimit < t.attempt) : ¬t.attempt < t.allowed := by
    rw [allowed_retried (by rw [peek]; exact nofun) (by rw [peek]; exact nofun)]
    omega
  have given (x : State) (q : TransactionReport) {engine : Engine} (col : x.col n = { s.col n with engine }) :
      handResult n t q (x.modEngine n Engine.rest) = transferResult n q (x.slotted n (.busy r)) := by
    have busy' : (x.col n).slot = .busy r := by rw [col]; exact busy
    rw [handResult_transfer requester, rest_slotted busy']
  have finishes (x : State) {engine : Engine} (col : x.col n = { s.col n with engine }) (moves : LaneMoves n s x)
      (settings : x.settings = s.settings) (same : x.port.owed = s.port.owed) (st : Status) (r' : Read)
          (slot : TransferSlot) :
      finished x st r'.bytes (.next (lineGrant n (finishRead n st r' (x.slotted n slot)))) := by
    have owed' : x.port.owed.get n = some tag := by rw [same]; exact owed
    refine fun procedure => ⟨fun now => ?_, fun waits => ?_⟩
    · rw [finishRead_ends owed' slot st r' (by rw [col]; exact now) (by rw [col]; exact procedure) (by rw [col]; exact transfer)]
      rfl
    · rw [finishRead_walks owed' slot st r' moves (by rw [State.laneState, col]; rfl) (by rw [col]; exact waits), settings]
      rfl
  have gotten (attempt : attempting) : got = .next (lineGrant n
      (transferResult n (t.doneReport gotResult) ((s.handed n gotResult gotStages).slotted n (.busy r)))) := by
    have result : t.request.result [true, true, true] (chunk ++ [crc8 chunk]) = gotResult := by
      rw [peek, result_peek_good _ _ most]
      rfl
    rw [← given _ _ (handed_col _ _ _ _)]
    exact execAttemptEnd_done attempt flight result rfl
  have failing (result : AttemptResult) (read : t.request.result acks bytes = result) (bad : result.outcome ≠ .done)
      (offset : t.refusedOffset result = false) (attempt : attempting) (last : t.retryLimit < t.attempt) :
          failed result := by
    have taken := execAttemptEnd_failed attempt flight read bad offset (spent last)
    have col : ((countLineError ⟨n, r.handle⟩ s).handed n result (t.request.run acks bytes).stages).col n = _ :=
      handed_col _ _ _ _
    rw [countLineError_col] at col
    rw [target, given _ _ col, transferResult_lineError rfl] at taken
    simp only [failed]
    rw [taken]
    exact finishes _ col (withColumn_moves (countLineError_moves .refl _) _) (countLineError_settings _ _)
      (countLineError_owed _ _) _ r _
  have other (result : AttemptResult) (byte : result.failedByte ≠ some 2) : t.refusedOffset result = false := by
    simp [Transaction.refusedOffset, byte]
  refine ⟨fun attempt more => ⟨fun procedure => ?_, fun procedure last => ?_⟩, fun attempt last => ?_, fun attempt => ?_,
    fun attempt last => ⟨fun unheard => ?_, fun missing => ?_, fun all whole bad => ?_⟩, fun closing ends last => ?_⟩
  · have arbiter : ({ a with lastGrant := .transfer } : LineArbiter) =
        { procedure := none, transfer := none, lastGrant := .transfer } :=
      LineArbiter.mk.injEq .. ▸ ⟨procedure, transfer, rfl⟩
    rw [gotten attempt, transferResult_more rfl rfl more, placeChunk_slotted, handed_withColumn, lineGrant_withColumn,
      lineGranted_transfer ?_ ?_ rfl, handed_col, arbiter]
    · rfl
    · rfl
    · rw [handed_col]
      exact procedure
  · rw [gotten attempt, transferResult_more rfl rfl more, placeChunk_slotted, handed_withColumn, lineGrant_withColumn,
      lineGranted_both ?_ ?_ rfl, if_pos ?_, handed_col]
    · rfl
    · rw [handed_col]
      exact last
    · rfl
    · rw [handed_col]
      exact procedure
  · rw [gotten attempt, transferResult_last rfl rfl last]
    exact finishes _ (handed_col _ _ _ _) (withColumn_moves .refl _) rfl rfl _ { r with bytes := r.bytes ++ chunk } _
  · have result : t.request.result [true, false] [] = refusedResult := by
      rw [peek]
      exact result_nak _ 1 _ _ (Nat.le_succ 1) (given_of_take (k := 1) rfl) rfl
    have offset : t.refusedOffset refusedResult = true := by
      simp [Transaction.refusedOffset, peek, peekRequest, refusedResult]
    have taken : refused = _ := execAttemptEnd_refused attempt flight result nofun offset
    rw [given _ _ (handed_col _ _ _ _), transferResult_refused rfl] at taken
    rw [taken]
    exact finishes _ (handed_col _ _ _ _) (withColumn_moves .refl _) rfl rfl _ r _
  · exact failing _ (result_unheard unheard _ _) nofun (other _ nofun) attempt last
  · refine failing _ ?_ nofun (other _ nofun) attempt last
    rw [peek, missing]
    exact result_nak _ 2 _ _ (Nat.le_refl 2) (given_of_take (k := 2) rfl) rfl
  · refine failing _ ?_ nofun (other _ nofun) attempt last
    rw [peek, all]
    exact result_peek_bad _ _ most whole bad
  · obtain ⟨result, _, taken⟩ := exec_closingEnds ends closing flight (spent last)
    rw [given _ _ (closed_col _ _ _), transferResult_lineError rfl] at taken
    rw [taken]
    exact finishes _ (closed_col _ _ _) (withColumn_moves .refl _) rfl rfl _ r _

end Sys2Proof.Machine
end

section
/-!
The walk unit between two transactions: its engine at rest, and then its next request granted, or the walk at its end
(R84, R85, R101 to R110).
-/

namespace Sys2Proof.Machine

/-! ## The walk unit with its engine at rest (R81) -/

/-- R81: a state in which a lane's engine has gone to rest and its walk goes on as `w`. -/
def State.walks (x : State) (n : Lane) (w : WalkUnit) : State :=
  x.withColumn n { x.col n with engine := (x.col n).engine.rest, walk := w }

/-- R84: the arbiter of a lane whose walk waits for what its unit places next. -/
def LineArbiter.walking : LineArbiter := { procedure := none, transfer := none, lastGrant := .procedure }

section

variable (s : State) (n : Lane) (r : AttemptResult) (stages : List WireStage)

theorem handed_arbiter : ((s.handed n r stages).col n).arbiter = (s.col n).arbiter := by rw [handed_col]

theorem closed_arbiter : ((s.closed n stages).col n).arbiter = (s.col n).arbiter := by rw [closed_col]

end

section

variable {n : Lane} {x : State} {w : WalkUnit}

theorem rest_walks (x : State) (n : Lane) : x.modEngine n Engine.rest = x.walks n (x.col n).walk := rfl

@[simp] theorem walks_col (x : State) (n : Lane) (w : WalkUnit) :
    (x.walks n w).col n = { x.col n with engine := (x.col n).engine.rest, walk := w } := withColumn_col _ _ _

@[simp] theorem walks_withColumn (x : State) (n : Lane) (w : WalkUnit) (c : Column) :
    (x.walks n w).withColumn n c = x.withColumn n c := withColumn_withColumn _ _ _ _

@[simp] theorem walks_modWalk (x : State) (n : Lane) (w : WalkUnit) (f : WalkUnit → WalkUnit) :
    (x.walks n w).modWalk n f = x.walks n (f w) := by
  simp [updates_eq, State.walks]

theorem walks_modTable (x : State) (n : Lane) (w : WalkUnit) (f : DeviceTable → DeviceTable) :
    (x.walks n w).modTable f = (x.modTable f).walks n w := rfl

theorem walks_modPort (x : State) (n : Lane) (w : WalkUnit) (f : Port → Port) :
    (x.walks n w).modPort f = (x.modPort f).walks n w := rfl

theorem same_arbiter {c : Column} {a : LineArbiter} (arbiter : c.arbiter = a) (engine : Engine) (w : WalkUnit) :
    ({ c with engine, walk := w, arbiter := a } : Column) = { c with engine, walk := w } := by
  subst arbiter
  rfl

/-- R84, R85: what the walk unit places is granted. -/
theorem walks_asks (arbiter : (x.col n).arbiter = .walking) (w : WalkUnit) (r : LineRequest) :
    lineGrant n (placeRequest n .procedure r (x.walks n w)) = x.walkAsks n w r := by
  have placed : placeRequest n .procedure r (x.walks n w) =
      x.withColumn n { (x.walks n w).col n with arbiter := { LineArbiter.walking with procedure := some r } } := by
    simp [placeRequest, updates_eq, arbiter]
  rw [placed, lineGrant_withColumn, lineGranted_procedure ?_ rfl rfl, walks_col]
  · exact congrArg (x.withColumn n) (same_arbiter arbiter ((x.col n).engine.granted x.settings n .procedure r) w)
  · rw [walks_col]
    rfl

/-! ## The walk's end (R108) -/

/-- R11, R108, R110: the walk's end in one piece. -/
theorem endWalk_eq (s : State) (n : Lane) : endWalk n s = s.walkEnded n := by
  have moves : LaneMoves n s (startRoll n (raiseRoster n (s.col n).walk.record.added (s.table.awayOf n).length
      (s.col n).walk.record.refound ((s.modTable fun t => t.remove (s.table.awayOf n)).modWalk n fun w =>
        { w.emptied with phase := .idle, record := w.record.ended (s.table.awayOf n).length }))) :=
    modRoll_moves (raiseRoster_moves (modWalk_moves (LaneMoves.refl.modTable _) _) _ _ _ _) _
  rw [endWalk, enterReady]
  refine (transition_moved moves ?_ .ready .walkDone none).trans ?_
  · rw [raiseRoster_eq]
    simp [startRoll, updates_eq, State.laneState]
  · simp only [startRoll, updates_eq, raiseRoster_eq, State.modPort_col, modPort_withColumn, modTable_withColumn,
      State.modTable_col, withColumn_col, withColumn_withColumn]
    rfl

/-- R85: with nothing placed the arbiter grants nothing. -/
theorem lineGrant_walking (arbiter : (x.col n).arbiter = .walking) : lineGrant n x = x := by
  rw [lineGrant_eq, lineGranted_nothing, withColumn_self]
  · rw [arbiter]
    rfl
  · rw [arbiter]
    rfl

theorem walks_ends (arbiter : (x.col n).arbiter = .walking) (w : WalkUnit) :
    lineGrant n (endWalk n (x.walks n w)) = x.walkRests n w := by
  have rests : endWalk n (x.walks n w) = x.walkRests n w := endWalk_eq _ _
  rw [rests, lineGrant_walking]
  rw [State.walkRests, State.walkEnded, toldNaming_col]
  exact (congrArg Column.arbiter (withColumn_col _ _ _)).trans ((congrArg Column.arbiter (withColumn_col _ _ _)).trans arbiter)

end

end Sys2Proof.Machine
end

section
/-!
The walk's FINISHING (O40): which junction's legs are opened next (R107), the LEG calls' results, and the walk's end (R108).
-/

namespace Sys2Proof.Machine

/-! ## The order of FINISHING (R107) -/

/-- R107: where a junction stands in the order in which a walk's end opens legs. -/
def Entry.standing (e : Entry) : Nat × Nat := (e.depth, e.key.handle)

/-- R107: by depth, then by handle. -/
def opensEarlier (a b : Nat × Nat) : Prop := a.1 < b.1 ∨ (a.1 = b.1 ∧ a.2 < b.2)

theorem opensBefore_iff (a b : Entry) : a.opensBefore b ↔ opensEarlier a.standing b.standing := Iff.rfl

theorem comesAfter_iff (done : Option Entry) (y : Nat × Nat) :
    comesAfter (done.map Entry.standing) y = true ↔ ∀ d ∈ done, opensEarlier d.standing y := by
  cases done with
  | none => simp [comesAfter]
  | some d => simp [comesAfter, opensEarlier]

theorem opensAtEnd_iff (depth : Nat) (e : Entry) :
    e.opensAtEnd depth = true ↔
      e.state = .present ∧ e.cls = 1 ∧ e.depth = depth ∧ e.flags.depthLimit = false ∧ e.flags.legFailed = false := by
  simp [Entry.opensAtEnd, Config.junctionClass, and_assoc]

section

variable {n : Lane} {s : State} {done : Option Entry}

theorem mem_walkEndJunctions {p : Nat × Nat} :
    p ∈ s.walkEndJunctions n ↔ ∃ e ∈ s.table.entries, e.opened n ∧ e.standing = p := by
  simp only [State.walkEndJunctions, List.mem_flatMap, List.mem_map, List.mem_filter, mem_ofLane, opensAtEnd_iff]
  constructor
  · rintro ⟨d, hd, e, ⟨⟨mem, lane⟩, present, cls, rfl, depthLimit, legFailed⟩, rfl⟩
    have depth : e.depth = 0 ∨ e.depth = 1 := by simpa using hd
    exact ⟨e, mem, ⟨lane, present, cls, by omega, depthLimit, legFailed⟩, rfl⟩
  · rintro ⟨e, mem, ⟨lane, present, cls, depth, depthLimit, legFailed⟩, rfl⟩
    have member : e.depth ∈ [0, 1] := by
      have : e.depth = 0 ∨ e.depth = 1 := by omega
      simpa using this
    exact ⟨e.depth, member, e, ⟨⟨mem, lane⟩, present, cls, rfl, depthLimit, legFailed⟩, rfl⟩

/-- R116: the entries of the table stand in reporting order. -/
def DeviceTable.ascends (t : DeviceTable) : Prop := t.entries.Pairwise fun a b => a.key.before b.key = true

theorem walkEndJunctions_ascending (ordered : s.table.ascends) : (s.walkEndJunctions n).Pairwise opensEarlier := by
  have each (d : Nat) :
      (((s.table.ofLane n).filter (Entry.opensAtEnd d)).map fun e => (d, e.key.handle)).Pairwise opensEarlier := by
    refine List.pairwise_map.mpr (((ordered.filter _).filter _).imp_of_mem fun {a b} ha hb ahead => ?_)
    have la := (mem_ofLane.mp (List.mem_filter.mp ha).1).2
    have lb := (mem_ofLane.mp (List.mem_filter.mp hb).1).2
    obtain less | ⟨_, less⟩ := (before_iff _ _).mp ahead
    · rw [la, lb] at less
      exact absurd less (Nat.lt_irrefl _)
    · exact .inr ⟨rfl, less⟩
  simp only [State.walkEndJunctions, List.flatMap_cons, List.flatMap_nil, List.append_nil]
  refine List.pairwise_append.mpr ⟨each 0, each 1, fun a ha b hb => ?_⟩
  obtain ⟨_, _, rfl⟩ := List.mem_map.mp ha
  obtain ⟨_, _, rfl⟩ := List.mem_map.mp hb
  exact .inl Nat.zero_lt_one

/-- R107: the first junction after the one just handled. -/
theorem finishNext_opens (ordered : s.table.ascends) {x : Entry} (next : s.opensNext n done x) :
    finishNext n (done.map Entry.standing) s = placeRequest n .procedure (legRequest x.key.handle 0x03) s := by
  obtain ⟨⟨mem, opened, after⟩, least⟩ := next
  have listed : x.standing ∈ s.walkEndJunctions n := mem_walkEndJunctions.mpr ⟨x, mem, opened, rfl⟩
  have passes : comesAfter (done.map Entry.standing) x.standing = true := (comesAfter_iff _ _).mpr after
  obtain ⟨p, found⟩ := Option.isSome_iff_exists.mp (List.find?_isSome.mpr ⟨_, listed, passes⟩)
  obtain ⟨test, before, behind, list, early⟩ := List.find?_eq_some_iff_append.mp found
  obtain ⟨y, memY, openedY, rfl⟩ := mem_walkEndJunctions.mp (show p ∈ s.walkEndJunctions n by rw [list]; simp)
  have same : y.standing = x.standing := by
    obtain rfl | later := least y memY openedY ((comesAfter_iff _ _).mp test)
    · rfl
    have ordered := walkEndJunctions_ascending (n := n) ordered
    rw [list] at ordered listed
    obtain first | same | last : x.standing ∈ before ∨ x.standing = y.standing ∨ x.standing ∈ behind := by simpa using listed
    · have failed := early _ first
      rw [passes] at failed
      exact absurd failed (by decide)
    · exact same.symm
    · have less := (List.pairwise_cons.mp (List.pairwise_append.mp ordered).2.1).1 _ last
      rw [opensBefore_iff] at later
      simp only [opensEarlier] at less later
      omega
  simp only [finishNext, found, same]
  rfl

theorem finishNext_ends (nobody : s.opensNone n done) : finishNext n (done.map Entry.standing) s = endWalk n s := by
  have found : (s.walkEndJunctions n).find? (comesAfter (done.map Entry.standing)) = none := by
    refine List.find?_eq_none.mpr fun p mem passes => ?_
    obtain ⟨y, memY, openedY, rfl⟩ := mem_walkEndJunctions.mp mem
    obtain ⟨d, hd, not⟩ := nobody y memY openedY
    exact not ((comesAfter_iff _ _).mp passes d hd)
  simp only [finishNext, found]

end

/-! ## FINISHING (R106 to R108) -/

section

variable {n : Lane} {x : State} {w : WalkUnit} (arbiter : (x.col n).arbiter = .walking) (ordered : x.table.ascends)
include arbiter ordered

/-- R107, R108: FINISHING goes on with a LEG call or with the walk's end. -/
theorem finishNext_goesOn (done : Option Entry) (w : WalkUnit) :
    x.opensOrEnds n done w (.next (lineGrant n (finishNext n (done.map Entry.standing) (x.walks n w)))) := by
  refine ⟨fun e next => ?_, fun nobody => ?_⟩
  · rw [finishNext_opens (s := x.walks n w) ordered next, walks_asks arbiter]
  · rw [finishNext_ends (s := x.walks n w) nobody, walks_ends arbiter]

theorem enterFinishing_goesOn (w : WalkUnit) :
    x.opensOrEnds n none { w with phase := .finishing, stack := [], root := JunctionList.empty, binding := none }
      (.next (lineGrant n (enterFinishing n (x.walks n w)))) := by
  rw [enterFinishing, walks_modWalk]
  exact finishNext_goesOn arbiter ordered none _

end

/-! ## LEG_FAILED (R104, R105, R107) -/

section

variable {n : Lane} {x : State} {h : Nat}

/-- R104, R105, R107: the walk unit that has noted LEG_FAILED. -/
def WalkUnit.legFailed (w : WalkUnit) : WalkUnit :=
  { w with record := { w.record with reasons := { w.record.reasons with legFailed := true } } }

/-- R104: the entry of a junction whose leg did not open. -/
def Entry.unopened (e : Entry) : Entry := { e with flags := { e.flags with legFailed := true } }

theorem legFlagged_eq (x : State) (n : Lane) (h : Nat) :
    x.legFlagged n h = (x.withColumn n { x.col n with walk := (x.col n).walk.legFailed }).modTable
      fun t => t.write ⟨n, h⟩ Entry.unopened := rfl

@[simp] theorem legFlagged_col (x : State) (n : Lane) (h : Nat) :
    (x.legFlagged n h).col n = { x.col n with walk := (x.col n).walk.legFailed } := withColumn_col _ _ _

theorem legFlagged_withColumn (x : State) (n : Lane) (h : Nat) (c : Column) :
    (x.legFlagged n h).withColumn n c = (x.withColumn n c).modTable fun t => t.write ⟨n, h⟩ Entry.unopened := by
  rw [legFlagged_eq, modTable_withColumn, withColumn_withColumn]

theorem flagLegFailed_walks (x : State) (n : Lane) (h : Nat) :
    flagLegFailed n h (x.walks n (x.col n).walk) = (x.legFlagged n h).walks n ((x.legFlagged n h).col n).walk := by
  rw [flagLegFailed, noteReason, walks_modTable, walks_modWalk, State.walks, State.walks, legFlagged_withColumn,
    legFlagged_col]
  rfl

theorem ascends_write {t : DeviceTable} (ordered : t.ascends) (k : EntryKey) {f : Entry → Entry}
    (key : ∀ e, (f e).key = e.key) :
    (t.write k f).ascends := by
  have kept (e : Entry) : (if e.key = k then f e else e).key = e.key := by
    split
    · exact key e
    · rfl
  refine List.pairwise_map.mpr (ordered.imp fun {a b} ahead => ?_)
  rw [kept, kept]
  exact ahead

theorem legFlagged_ascends (ordered : x.table.ascends) : (x.legFlagged n h).table.ascends :=
  ascends_write ordered _ fun _ => rfl

theorem legFlagged_arbiter (arbiter : (x.col n).arbiter = .walking) : ((x.legFlagged n h).col n).arbiter = .walking :=
  (congrArg Column.arbiter (legFlagged_col _ _ _)).trans arbiter

end

/-! ## Results handed to the walk (R75, R81) -/

/-- R75: a BIND, LEG or RELEASE whose every byte is acknowledged. -/
theorem result_sent {r : LineRequest} {acks : List Bool} (bytes : List Byte)
    (given : ∀ i < 1 + r.out.length, acks.getD i false = true) (call : r.call = .bind ∨ r.call = .leg ∨ r.call = .release) :
    r.result acks bytes =
      { outcome := .done, failedByte := none, bytesRead := none, bitTimes := 2 + 9 * (1 + r.out.length) } := by
  have expected : r.expected = 0 := by
    obtain h | h | h := call <;> simp only [LineRequest.expected, h]
  have handed : r.handedBytes (bytesHeard 0 bytes) = none := by
    obtain h | h | h := call <;> simp only [LineRequest.handedBytes, h]
  rw [result_acked _ _ _ given, expected, handed, LineRequest.bytes, expected]
  rfl

/-- R76: a LEG whose two bytes are acknowledged. -/
theorem result_leg (h : Nat) (byte : Byte) (bytes : List Byte) :
    (legRequest h byte).result [true, true] bytes =
      { outcome := .done, failedByte := none, bytesRead := none, bitTimes := 20 } :=
  result_sent bytes (given_of_take (k := 2) rfl) (.inr (.inl rfl))

/-- R60, R76: a LEG of which a byte is not acknowledged. -/
theorem result_leg_missing {i : Nat} {acks : List Bool} (h : Nat) (byte : Byte) (bytes : List Byte) (within : i ≤ 1)
    (given : ∀ m < i, acks[m]? = some true) (missing : acks[i]? ≠ some true) :
    (legRequest h byte).result acks bytes =
      { outcome := .noAck, failedByte := some (i + 1), bytesRead := none, bitTimes := 2 + 9 * (i + 1) } :=
  result_nak _ _ _ _ within (given_of_getElem? given) (missing_of_getElem? missing)

section

variable {n : Lane} {t : Transaction} {x : State} {w : WalkUnit}

/-- R81: a result that is handed to a walk. -/
theorem handResult_walks (requester : t.requester = .procedure) (walk : (x.col n).walk = w) (runs : w.phase ≠ .idle)
    (p : TransactionReport) : handResult n t p (x.modEngine n Engine.rest) = walkResult n t p (x.walks n w) := by
  have walking : ((x.modEngine n Engine.rest).col n).walk.phase ≠ .idle := by
    rw [rest_walks, walks_col, walk]
    exact runs
  rw [handResult_walk requester walking, rest_walks, walk]

/-- R104, R105, R107: the result of a LEG is judged by what it is and by its request alone. -/
theorem walkResult_finishing (phase : w.phase = .finishing) (p : TransactionReport) :
    walkResult n t p (x.walks n w) = finishingResult n t.request.handle p (x.walks n w) := by
  simp only [walkResult, walks_col, phase]

theorem walkResult_rounds (phase : w.phase = .rounds) (p : TransactionReport) :
    walkResult n t p (x.walks n w) = roundResult n p (x.walks n w) := by
  simp only [walkResult, walks_col, phase]

/-- R107: after the LEG of a junction that stands in the table. -/
theorem finishingResult_done {d e : Entry} (found : x.table.find d.key = some e) (depth : e.depth = d.depth)
    (lane : d.key.lane = n)
    {p : TransactionReport} (done : p.result = .done) :
    finishingResult n d.key.handle p (x.walks n w) = finishNext n ((some d).map Entry.standing) (x.walks n w) := by
  have key : (⟨n, d.key.handle⟩ : EntryKey) = d.key := by rw [← lane]
  have there : (x.walks n w).table.find ⟨n, d.key.handle⟩ = some e := by rw [key]; exact found
  simp only [finishingResult, there, done, if_true, Option.map_some, Option.getD_some, depth, Entry.standing]

theorem finishingResult_failed {d e : Entry} (found : x.table.find d.key = some e) (depth : e.depth = d.depth)
    (lane : d.key.lane = n) {p : TransactionReport} (failed : p.result ≠ .done) :
    finishingResult n d.key.handle p (x.walks n (x.col n).walk) =
      finishNext n ((some d).map Entry.standing)
        ((x.legFlagged n d.key.handle).walks n ((x.legFlagged n d.key.handle).col n).walk) := by
  have key : (⟨n, d.key.handle⟩ : EntryKey) = d.key := by rw [← lane]
  have there : (x.walks n (x.col n).walk).table.find ⟨n, d.key.handle⟩ = some e := by rw [key]; exact found
  simp only [finishingResult, there, failed, if_false, Option.map_some, Option.getD_some, depth, Entry.standing,
    flagLegFailed_walks]

/-- R101: a round that nobody answers ends its segment's rounds. -/
theorem roundResult_unheard {p : TransactionReport} (failed : p.result ≠ .done) (noAck : p.failedWith .noAck = true)
    (s : State) :
    roundResult n p s = takeJunction n s := by
  simp only [roundResult, failed, noAck, if_false, if_true]

/-- R101, R106: with no junction left at the root the exploration ends. -/
theorem takeJunction_root (root : w.stack = []) (last : w.root.handles.drop w.root.taken = []) :
    takeJunction n (x.walks n w) = enterFinishing n (x.walks n w) := by
  have list : w.list = w.root := by simp only [WalkUnit.list, root]
  simp only [takeJunction, walks_col, list, last, segmentDone, root]

end

/-- Settles O40: what places or ends is `finishNext`, at each of the four rows that come to it. -/
theorem walkEndOpensLegs : Obligations.WalkEndOpensLegs := by
  unfold Obligations.WalkEndOpensLegs
  intro n t d i acks bytes c stages s flight requester first walking inv arbiter w next handed failed
  have ordered : s.table.ascends := inv.ordered
  refine ⟨fun attempting enrol unheard phase root last => ?_, fun leg phase mem lane => ?_⟩
  · have taken : next = _ := execAttemptEnd_failed attempting flight (result_unheard unheard _ _) nofun
      (refusedOffset_other (by rw [enrol]; exact nofun) _) (enrol_spent enrol first)
    have target : t.request.target = 0 := by rw [enrol]; rfl
    have runs : w.phase ≠ .idle := by rw [phase]; exact nofun
    rw [target, countLineError_nobody inv, handResult_walks requester (handed_walk _ _ _ _) runs,
      walkResult_rounds phase, roundResult_unheard (failedReport_result _ _) rfl, takeJunction_root root last] at taken
    rw [taken]
    exact enterFinishing_goesOn ((handed_arbiter _ _ _ _).trans arbiter) ordered w
  have found : s.table.find d.key = some d := ((tableInv_iff s).mp inv).find_mem mem rfl
  have handle : t.request.handle = d.key.handle := by rw [leg]; rfl
  have target : t.request.target = d.key.handle := by rw [leg]; rfl
  have key : (⟨n, d.key.handle⟩ : EntryKey) = d.key := by rw [← lane]
  have runs : w.phase ≠ .idle := by rw [phase]; exact nofun
  have spent (last : t.retryLimit < t.attempt) : ¬t.attempt < t.allowed := by
    rw [allowed_retried (by rw [leg]; exact nofun) (by rw [leg]; exact nofun)]
    omega
  have fails (x : State) (r : AttemptResult) {engine : Engine} (col : x.col n = { s.col n with engine })
      (ascends : x.table.ascends)
      {e : Entry} (there : x.table.find d.key = some e) (depth : e.depth = d.depth) :
      failed x (.next (lineGrant n (handResult n t (t.failedReport r) (x.modEngine n Engine.rest)))) := by
    have walk : (x.col n).walk = w := by rw [col]
    have arbiter' : (x.col n).arbiter = .walking := by rw [col]; exact arbiter
    rw [handResult_walks requester walk runs, walkResult_finishing phase, handle, ← walk,
      finishingResult_failed there depth lane (failedReport_result t r)]
    exact finishNext_goesOn (legFlagged_arbiter arbiter') (legFlagged_ascends ascends) (some d) _
  refine ⟨fun attempting all => ?_, fun attempting within given missing last => ?_, fun closing ends last => ?_⟩
  · have result : t.request.result acks bytes = { outcome := .done, failedByte := none, bytesRead := none, bitTimes := 20 } := by
      rw [leg, all]
      exact result_leg _ _ _
    have taken : next = _ := execAttemptEnd_done attempting flight result rfl
    rw [handResult_walks requester (handed_walk _ _ _ _) runs, walkResult_finishing phase, handle,
      finishingResult_done (x := s.handed n _ _) found rfl lane rfl] at taken
    rw [taken]
    exact finishNext_goesOn ((handed_arbiter _ _ _ _).trans arbiter) ordered (some d) w
  · have result := result_leg_missing d.key.handle 0x03 bytes within given missing
    rw [← leg] at result
    have taken : next = _ := execAttemptEnd_failed attempting flight result nofun
      (refusedOffset_other (by rw [leg]; exact nofun) _) (spent last)
    rw [target, key] at taken
    rw [taken]
    have counted : (countLineError d.key s).table.find d.key = some (d.lineError s.settings.degradeThreshold) := by
      rw [countLineError_some found]
      exact find_write (fun _ => rfl) found
    exact fails _ _ ((handed_col _ _ _ _).trans (by rw [countLineError_col])) (inv.countLineError d.key).ordered counted rfl
  · obtain ⟨r, _, taken⟩ := exec_closingEnds ends closing flight (spent last)
    rw [taken]
    exact fails _ r (closed_col _ _ _) ordered found rfl

end Sys2Proof.Machine
end

section
/-!
The walk's rounds and junctions (O38): a failed round, the next junction of a segment, and what a segment's end turns
or closes
(R95, R99 to R103).
-/

namespace Sys2Proof.Machine

/-! ## The next junction (R101 to R103) -/

/-- R102: the frame of a junction whose leg A is to be explored. -/
def Frame.fresh (j : Nat) : Frame := { junction := j, leg := .a, list := JunctionList.empty }

section

variable {n : Lane} {x : State} {w : WalkUnit}

theorem list_root (root : w.stack = []) : w.list = w.root := by simp only [WalkUnit.list, root]

theorem list_frame {f : Frame} {fs : List Frame} (stack : w.stack = f :: fs) : w.list = f.list := by
  simp only [WalkUnit.list, stack]

theorem withList_root (root : w.stack = []) (l : JunctionList) : w.withList l = { w with root := l } := by
  simp only [WalkUnit.withList, root]

theorem withList_frame {f : Frame} {fs : List Frame} (stack : w.stack = f :: fs) (l : JunctionList) :
    w.withList l = { w with stack := { f with list := l } :: fs } := by
  simp only [WalkUnit.withList, stack]

section

variable (arbiter : (x.col n).arbiter = .walking)
include arbiter

/-- R102: below the stack's limit the next junction's leg A is opened. -/
theorem takeJunction_opens {j : Nat} {rest : List Nat} (left : w.list.handles.drop w.list.taken = j :: rest)
    (room : w.stack.length < 2) :
    lineGrant n (takeJunction n (x.walks n w)) =
      x.walkAsks n
        { w.withList { w.list with taken := w.list.taken + 1 } with
          phase := .junctions
          stack := Frame.fresh j :: (w.withList { w.list with taken := w.list.taken + 1 }).stack }
        (legRequest j 0x01) := by
  have opens : takeJunction n (x.walks n w) =
      openLegA n j (x.walks n (w.withList { w.list with taken := w.list.taken + 1 })) := by
    simp only [takeJunction, walks_col, left, Config.walkDepth, room, if_true, walks_modWalk]
  rw [opens, openLegA, walks_modWalk, walks_asks arbiter]
  rfl

/-- R102: with no junction left the frame's leg B is opened after leg A, and its junction is closed after leg B. -/
theorem segmentDone_toLegB {f : Frame} {fs : List Frame} (stack : w.stack = f :: fs) (leg : f.leg = .a) :
    lineGrant n (segmentDone n (x.walks n w)) =
      x.walkAsks n
        { w with phase := .junctions, stack := { f with leg := .b, list := JunctionList.empty } :: fs }
        (legRequest f.junction 0x02) := by
  have turned : w.toLegB = { w with phase := .junctions, stack := { f with leg := .b, list := JunctionList.empty } :: fs } := by
    simp only [WalkUnit.toLegB, stack]
  have opens : segmentDone n (x.walks n w) = openLegB n f.junction (x.walks n w) := by
    simp only [segmentDone, walks_col, stack, leg]
  rw [opens, openLegB, walks_modWalk, walks_asks arbiter, turned]

theorem segmentDone_closes {f : Frame} {fs : List Frame} (stack : w.stack = f :: fs) (leg : f.leg = .b) :
    lineGrant n (segmentDone n (x.walks n w)) = x.walkAsks n { w with phase := .junctions } (legRequest f.junction 0x00) := by
  have closes : segmentDone n (x.walks n w) = closeLegs n f.junction (x.walks n w) := by
    simp only [segmentDone, walks_col, stack, leg]
  rw [closes, closeLegs, walks_modWalk, walks_asks arbiter]

end

theorem takeJunction_done (none : w.list.handles.drop w.list.taken = []) :
    takeJunction n (x.walks n w) = segmentDone n (x.walks n w) := by
  simp only [takeJunction, walks_col, none]

/-! ## The junctions left at the stack's limit (R103) -/

/-- R103: the table in which DEPTH_LIMIT is set on the entries of a lane with these handles. -/
def DeviceTable.depthLimited (n : Lane) (hs : List Nat) (t : DeviceTable) : DeviceTable :=
  { t with
    entries := t.entries.map fun e =>
      if e.key.lane = n ∧ e.key.handle ∈ hs then { e with flags := { e.flags with depthLimit := true } } else e }

/-- R103: the walk unit that has noted DEPTH_LIMIT. -/
def WalkUnit.depthNoted (w : WalkUnit) : WalkUnit :=
  { w with record := { w.record with reasons := { w.record.reasons with depthLimit := true } } }

theorem depthLimited_cons (n : Lane) (h : Nat) (hs : List Nat) (t : DeviceTable) :
    (t.write ⟨n, h⟩ fun e => { e with flags := { e.flags with depthLimit := true } }).depthLimited n hs =
      t.depthLimited n (h :: hs) := by
  simp only [DeviceTable.depthLimited, DeviceTable.write, List.map_map, DeviceTable.mk.injEq, and_true]
  refine List.map_congr_left fun e _ => ?_
  have key : e.key = ⟨n, h⟩ ↔ e.key.lane = n ∧ e.key.handle = h := by
    cases e.key
    simp
  by_cases own : e.key = ⟨n, h⟩
  · have lane := key.mp own
    simp [own]
  · have other : e.key.lane = n → e.key.handle ≠ h := fun lane handle => own (key.mpr ⟨lane, handle⟩)
    by_cases lane : e.key.lane = n
    · simp [own, lane, other lane]
    · simp [own, lane]

theorem flagDepthLimit_walks (h : Nat) :
    flagDepthLimit n (x.walks n w) h =
      (x.modTable fun t => t.write ⟨n, h⟩ fun e => { e with flags := { e.flags with depthLimit := true } }).walks n
        w.depthNoted := by
  rw [flagDepthLimit, noteReason, walks_modTable, walks_modWalk]
  rfl

theorem flagsDepthLimit_noted (hs : List Nat) (noted : w.depthNoted = w) :
    hs.foldl (flagDepthLimit n) (x.walks n w) = (x.modTable (DeviceTable.depthLimited n hs)).walks n w := by
  induction hs generalizing x with
  | nil =>
    have same : x.modTable (DeviceTable.depthLimited n []) = x := by
      simp [State.modTable, DeviceTable.depthLimited]
    rw [same, List.foldl_nil]
  | cons h hs ih =>
    rw [List.foldl_cons, flagDepthLimit_walks, noted, ih]
    simp only [State.modTable, depthLimited_cons]

theorem flagsDepthLimit_walks (h : Nat) (hs : List Nat) :
    (h :: hs).foldl (flagDepthLimit n) (x.walks n w) =
      (x.modTable (DeviceTable.depthLimited n (h :: hs))).walks n w.depthNoted := by
  rw [List.foldl_cons, flagDepthLimit_walks, flagsDepthLimit_noted hs rfl]
  simp only [State.modTable, depthLimited_cons]

/-- R103: at the stack's limit every junction left is flagged and passed. -/
theorem takeJunction_passes {j : Nat} {rest : List Nat} (left : w.list.handles.drop w.list.taken = j :: rest)
    (full : ¬w.stack.length < 2) :
    takeJunction n (x.walks n w) =
      segmentDone n ((x.modTable (DeviceTable.depthLimited n (j :: rest))).walks n
        (w.depthNoted.withList { w.list with taken := w.list.handles.length })) := by
  simp only [takeJunction, walks_col, left, Config.walkDepth, full, if_false, flagsDepthLimit_walks, walks_modWalk]
  rfl

end

/-! ## Failed rounds (R95, R96, R99, R100) -/

section

variable {n : Lane} {x : State} {w : WalkUnit}

/-- R95: the walk unit that has placed another round's ENROL. -/
def WalkUnit.nextRound (w : WalkUnit) : WalkUnit :=
  { w with phase := .rounds, record := { w.record with rounds := min 65535 (w.record.rounds + 1) } }

/-- R99: the walk unit that gives a segment's rounds up. -/
def WalkUnit.enrolFailed (w : WalkUnit) : WalkUnit :=
  { w with record := { w.record with reasons := { w.record.reasons with enrolFailed := true } } }

theorem placeRound_walks (arbiter : (x.col n).arbiter = .walking) (w : WalkUnit) :
    lineGrant n (placeRound n (x.walks n w)) = x.walkAsks n w.nextRound enrolRequest := by
  rw [placeRound, walks_modWalk, walks_asks arbiter]
  rfl

theorem failedRound_repeats (arbiter : (x.col n).arbiter = .walking) (below : w.failedInRow + 1 ≤ x.settings.retryLimit) :
    lineGrant n (failedRound n (x.walks n w)) = x.walkAsks n w.failedOnce.nextRound enrolRequest := by
  have again : failedRound n (x.walks n w) = placeRound n (x.walks n w.failedOnce) := by
    have notAbove : ¬(x.walks n w.failedOnce).settings.retryLimit < ((x.walks n w.failedOnce).col n).walk.failedInRow := by
      rw [walks_col]
      exact Nat.not_lt.mpr below
    rw [failedRound, walks_modWalk]
    exact if_neg notAbove
  rw [again, placeRound_walks arbiter]

theorem failedRound_leaves (above : x.settings.retryLimit < w.failedInRow + 1) :
    failedRound n (x.walks n w) = takeJunction n (x.walks n w.failedOnce.enrolFailed) := by
  have isAbove : (x.walks n w.failedOnce).settings.retryLimit < ((x.walks n w.failedOnce).col n).walk.failedInRow := by
    rw [walks_col]
    exact above
  rw [failedRound, walks_modWalk]
  refine (if_pos isAbove).trans ?_
  rw [noteReason, walks_modWalk]
  rfl

/-- R95: an ENROL that has failed, but not for want of an acknowledge. -/
theorem roundResult_failed {p : TransactionReport} (failed : p.result ≠ .done) (heard : p.failedWith .noAck = false)
    (s : State) :
    roundResult n p s = failedRound n s := by
  simp only [roundResult, failed, heard, if_false, Bool.false_eq_true]

theorem roundResult_won {p : TransactionReport} {record : List Byte} (done : p.result = .done)
    (read : p.bytesRead = some record)
    (s : State) : roundResult n p s = winningRound n record s := by
  simp only [roundResult, done, read, if_true, Option.getD_some]

/-- R121: an identity is one entry's of its lane. -/
theorem lookup_identity {s : State} (inv : TableInv s) {e : Entry} (own : e ∈ s.table.ofLane n) {identity : Identity}
    (same : e.identity = identity) : (s.table.ofLane n).find? (fun e => e.identity == identity) = some e := by
  have some : ((s.table.ofLane n).find? fun e => e.identity == identity).isSome = true :=
    List.find?_isSome.mpr ⟨e, own, beq_iff_eq.mpr same⟩
  obtain ⟨d, found⟩ := Option.isSome_iff_exists.mp some
  have mem := mem_ofLane.mp own
  have memD := mem_ofLane.mp (List.mem_of_find?_eq_some found)
  have sameD : d.identity = identity := by simpa using List.find?_some found
  rw [found, ((tableInv_iff s).mp inv).identity_unique memD.1 mem.1 (memD.2.trans mem.2.symm) (sameD.trans same.symm)]

theorem winningRound_refused {record : List Byte} {e : Entry}
    (found : (x.table.ofLane n).find? (fun e => e.identity == identityOf record) = some e) (bound : e.state ≠ .away) :
    winningRound n record (x.walks n w) = failedRound n (x.walks n w) := by
  have found' : ((x.walks n w).table.ofLane n).find? (fun e => e.identity == identityOf record) = some e := found
  simp only [winningRound, found']
  cases state : e.state
  case away => exact absurd state bound
  all_goals rfl

theorem walkResult_binding {t : Transaction} {b : PendingBinding} (phase : w.phase = .binding) (binding : w.binding = some b)
    (call : t.request.call ≠ .bind) (p : TransactionReport) :
        walkResult n t p (x.walks n w) = failedRound n (x.walks n w) := by
  simp only [walkResult, walks_col, phase, bindingResult, binding]
  cases kind : t.request.call
  case bind => exact absurd kind call
  all_goals rfl

end

/-- R79: every transaction has its attempts spent above the retry limit it took. -/
theorem attempts_spent {t : Transaction} (last : t.retryLimit < t.attempt) : ¬t.attempt < t.allowed := by
  have most : t.allowed ≤ 1 + t.retryLimit := by
    unfold Transaction.allowed
    cases t.request.call
    case release =>
      simp only
      split
      · omega
      · exact Nat.le_refl _
    all_goals simp
  omega

theorem result_release (h : Nat) {acks : List Bool} (heard : acks.headD false = true) (bytes : List Byte) :
    (releaseRequest h).result acks bytes = { outcome := .done, failedByte := none, bytesRead := none, bitTimes := 11 } :=
  result_sent bytes (fun i hi => by
    obtain rfl : i = 0 := Nat.lt_one_iff.mp hi
    rw [← headD_eq, heard]) (.inr (.inr rfl))

section

variable {n : Lane} {t : Transaction} {c : Instr} {failed s : State} (fails : RoundFails s n t c failed) (inv : TableInv s)
include fails

theorem RoundFails.col : ∃ engine, failed.col n = { s.col n with engine } := by
  cases fails
  case unheard => exact ⟨_, (handed_col _ _ _ _).trans (by rw [countLineError_col])⟩
  case broken => exact ⟨_, closed_col _ _ _⟩
  case unreleased => exact ⟨_, closed_col _ _ _⟩
  all_goals exact ⟨_, handed_col _ _ _ _⟩

theorem RoundFails.settings : failed.settings = s.settings := by
  cases fails
  case unheard => exact countLineError_settings _ _
  all_goals rfl

include inv in
theorem RoundFails.ascends : failed.table.ascends := by
  cases fails
  case unheard => exact (inv.countLineError _).ordered
  all_goals exact inv.ordered

include inv in
/-- R95, R96, R99: at each of these rows the walk unit takes a failed round. -/
theorem RoundFails.taken (flight : (s.col n).engine.inFlight = some t) (requester : t.requester = .procedure)
    (first : 1 ≤ t.attempt) : exec c s = .next (lineGrant n (failedRound n (failed.walks n (s.col n).walk))) := by
  have spent (last : t.retryLimit < t.attempt) := attempts_spent last
  have runs {p : WalkPhase} (phase : (s.col n).walk.phase = p) (some : p ≠ .idle) : (s.col n).walk.phase ≠ .idle :=
    phase ▸ some
  have walk (x : State) {engine : Engine} (col : x.col n = { s.col n with engine }) : (x.col n).walk = (s.col n).walk := by
    rw [col]
  cases fails with
  | badCheck acks record attempting phase enrol heard whole bad =>
    have result := result_enrol heard whole
    rw [if_neg bad, ← enrol] at result
    have taken := execAttemptEnd_failed attempting flight result nofun (refusedOffset_other (by rw [enrol]; exact nofun) _)
      (enrol_spent enrol first)
    have target : t.request.target = 0 := by rw [enrol]; rfl
    rw [taken, target, countLineError_nobody inv,
      handResult_walks requester (walk _ (handed_col _ _ _ _)) (runs phase nofun),
      walkResult_rounds phase, roundResult_failed (failedReport_result _ _) rfl]
  | refused acks record e attempting phase enrol heard whole good own same bound =>
    have result := result_enrol heard whole
    rw [if_pos good, ← enrol] at result
    have found := lookup_identity inv own same
    rw [execAttemptEnd_done attempting flight result rfl, handResult_walks requester (walk _ (handed_col _ _ _ _))
      (runs phase nofun), walkResult_rounds phase, roundResult_won rfl rfl,
      winningRound_refused (x := s.handed n _ _) found bound]
  | broken c stages o ends closing phase enrol latest cause =>
    obtain ⟨r, broken, taken⟩ := exec_closingEnds ends closing flight (enrol_spent enrol first)
    have heard : (t.failedReport r).failedWith .noAck = false := by
      rw [broken, latest]
      obtain rfl | rfl := cause <;> rfl
    rw [taken, handResult_walks requester (walk _ (closed_col _ _ _)) (runs phase nofun), walkResult_rounds phase,
      roundResult_failed (failedReport_result _ _) heard]
  | released acks bytes b attempting phase binding release heard =>
    have result := result_release b.handle heard bytes
    rw [← release] at result
    rw [execAttemptEnd_done attempting flight result rfl, handResult_walks requester (walk _ (handed_col _ _ _ _))
      (runs phase nofun), walkResult_binding phase binding (by rw [release]; exact nofun)]
  | unheard acks bytes b attempting phase binding release unheard last =>
    have taken := execAttemptEnd_failed attempting flight (result_unheard unheard t.request bytes) nofun
      (refusedOffset_other (by rw [release]; exact nofun) _) (spent last)
    have target : t.request.target = b.handle := by rw [release]; rfl
    rw [taken, target, handResult_walks requester (walk _ ((handed_col _ _ _ _).trans (by rw [countLineError_col])))
      (runs phase nofun), walkResult_binding phase binding (by rw [release]; exact nofun)]
  | unreleased c stages b ends closing phase binding release last =>
    obtain ⟨r, _, taken⟩ := exec_closingEnds ends closing flight (spent last)
    rw [taken, handResult_walks requester (walk _ (closed_col _ _ _)) (runs phase nofun),
      walkResult_binding phase binding (by rw [release]; exact nofun)]

end

/-- Settles O38: each row that fails a round is `failedRound`; what then takes the next junction is `takeJunction`. -/
theorem unansweredRoundTakesJunctions : Obligations.UnansweredRoundTakesJunctions := by
  unfold Obligations.UnansweredRoundTakesJunctions
  intro n t acks bytes j rest f fs c failed s flight requester first nobody arbiter fresh taken
  have takes (x : State) (arbiter : (x.col n).arbiter = .walking) (w : WalkUnit) :
      taken x w (.next (lineGrant n (takeJunction n (x.walks n w)))) := by
    refine ⟨fun root left => ?_, fun stack left => ?_, fun stack none => ⟨fun leg => ?_, fun leg => ?_⟩,
      fun stack more left => ?_⟩
    · rw [takeJunction_opens arbiter (w := w) (by rw [list_root root]; exact left) (by rw [root]; exact Nat.zero_lt_two),
        list_root root, withList_root root, root]
      rfl
    · rw [takeJunction_opens arbiter (w := w) (by rw [list_frame stack]; exact left) (by rw [stack]; exact Nat.one_lt_two),
        list_frame stack, withList_frame stack]
      rfl
    · rw [takeJunction_done (w := w) (by rw [list_frame stack]; exact none), segmentDone_toLegB arbiter stack leg]
    · rw [takeJunction_done (w := w) (by rw [list_frame stack]; exact none), segmentDone_closes arbiter stack leg]
    · have full : ¬w.stack.length < 2 := by
        rw [stack, List.length_cons]
        have := List.length_pos_iff.mpr more
        omega
      have passes := takeJunction_passes (x := x) (n := n) (by rw [list_frame stack]; exact left) full
      rw [withList_frame (w := w.depthNoted) stack, list_frame stack] at passes
      rw [passes]
      refine ⟨fun leg => ?_, fun leg => ?_⟩
      · rw [segmentDone_toLegB ?_ rfl ?_]
        · rfl
        · exact arbiter
        · exact leg
      · rw [segmentDone_closes ?_ rfl ?_]
        · rfl
        · exact arbiter
        · exact leg
  refine ⟨fun attempting enrol unheard phase => ?_, fun inv fails => ?_⟩
  · have runs : (s.col n).walk.phase ≠ .idle := by rw [phase]; exact nofun
    have none : s.table.find ⟨n, t.request.target⟩ = none := by rw [enrol]; exact nobody
    have ended := execAttemptEnd_failed (bytes := bytes) attempting flight (result_unheard unheard _ _) nofun
      (refusedOffset_other (by rw [enrol]; exact nofun) _) (enrol_spent enrol first)
    rw [countLineError_none none, handResult_walks requester (handed_walk _ _ _ _) runs,
      walkResult_rounds phase, roundResult_unheard (failedReport_result _ _) rfl] at ended
    rw [ended]
    exact takes _ ((handed_arbiter _ _ _ _).trans arbiter) _
  · have ended := fails.taken inv flight requester first
    obtain ⟨engine, col⟩ := fails.col
    have arbiter' : (failed.col n).arbiter = .walking := by rw [col]; exact arbiter
    refine ⟨fun below => ?_, fun above => ⟨?_, fun root last => ?_⟩⟩
    · rw [ended, failedRound_repeats arbiter' (by rw [fails.settings]; exact below)]
      rfl
    · rw [ended, failedRound_leaves (by rw [fails.settings]; exact above)]
      exact takes _ arbiter' _
    · rw [failedRound_leaves (by rw [fails.settings]; exact above),
        takeJunction_root (w := (s.col n).walk.failedOnce.enrolFailed)
        root last] at ended
      obtain ⟨opens, ends⟩ := enterFinishing_goesOn arbiter' (fails.ascends inv) (s.col n).walk.failedOnce.enrolFailed
      rw [ended]
      exact ⟨opens, fun none _ => ends none⟩

end Sys2Proof.Machine
end

section
/-!
The ends of the LEG calls that explore a junction (O39): its segments' rounds, the leg passed over, the frame popped
(R95, R102, R104, R105).
-/

namespace Sys2Proof.Machine

section

variable {n : Lane} {t : Transaction} {x : State} {w : WalkUnit} {h : Nat} {p : TransactionReport}

theorem walkResult_junctions {r : LineRequest} (phase : w.phase = .junctions) (request : t.request = r)
    (p : TransactionReport) :
    walkResult n t p (x.walks n w) = junctionResult n r p (x.walks n w) := by
  simp only [walkResult, walks_col, phase, request]

/-- R95, R100: a segment's rounds start with no failed round in a row. -/
theorem startRounds_walks (arbiter : (x.col n).arbiter = .walking) (w : WalkUnit) :
    lineGrant n (startRounds n (x.walks n w)) = x.walkAsks n { w with failedInRow := 0 }.nextRound enrolRequest := by
  rw [startRounds, walks_modWalk, placeRound_walks arbiter]

/-- R102: which of a junction's LEG calls a byte makes. -/
theorem junctionResult_opened {byte : Byte} (opens : byte ≠ 0x00) (done : p.result = .done) (s : State) :
    junctionResult n (legRequest h byte) p s = startRounds n s := by
  have out : (legRequest h byte).out ≠ [0x00] := by simpa [legRequest] using opens
  simp only [junctionResult, out, done, if_true, if_false]

theorem junctionResult_closed (done : p.result = .done) (w : WalkUnit) :
    junctionResult n (legRequest h 0x00) p (x.walks n w) = takeJunction n (x.walks n { w with stack := w.stack.tail }) := by
  have out : (legRequest h 0x00).out = [0x00] := rfl
  simp only [junctionResult, out, done, if_true, popFrame, walks_modWalk]

section

variable (failed : p.result ≠ .done)
include failed

theorem junctionResult_passed_a :
    junctionResult n (legRequest h 0x01) p (x.walks n (x.col n).walk) =
      openLegB n h ((x.legFlagged n h).walks n ((x.legFlagged n h).col n).walk) := by
  rw [← flagLegFailed_walks]
  have out : (legRequest h 0x01).out = [0x01] := rfl
  have other : ([0x01] : List Byte) ≠ [0x00] := by decide
  simp only [junctionResult, out, other, failed, if_false, if_true, passLeg]
  rfl

theorem junctionResult_passed_b :
    junctionResult n (legRequest h 0x02) p (x.walks n (x.col n).walk) =
      closeLegs n h ((x.legFlagged n h).walks n ((x.legFlagged n h).col n).walk) := by
  rw [← flagLegFailed_walks]
  have out : (legRequest h 0x02).out = [0x02] := rfl
  have other : ([0x02] : List Byte) ≠ [0x00] := by decide
  have notA : ([0x02] : List Byte) ≠ [0x01] := by decide
  simp only [junctionResult, out, other, notA, failed, if_false, passLeg]
  rfl

/-- R105: a junction that does not close stops the walk. -/
theorem junctionResult_stuck :
    junctionResult n (legRequest h 0x00) p (x.walks n (x.col n).walk) =
      enterFinishing n ((x.legFlagged n h).walks n ((x.legFlagged n h).col n).walk) := by
  have out : (legRequest h 0x00).out = [0x00] := rfl
  simp only [junctionResult, out, failed, if_true, if_false, stopWalk, flagLegFailed_walks, noteReason, walks_modWalk]
  simp only [legFlagged_col]
  rfl

end

end

/-! ## A walk unit in JUNCTIONS (R102) -/

theorem same_phase {w : WalkUnit} {p : WalkPhase} (phase : w.phase = p) : ({ w with phase := p } : WalkUnit) = w := by
  subst phase
  rfl

/-- R78, R84: what a walk unit asks that stays in JUNCTIONS. -/
theorem walkAsks_junctions {n : Lane} {x : State} {v w : WalkUnit} {r : LineRequest} (phase : w.phase = .junctions)
    (same : v = { w with phase := .junctions }) : x.walkAsks n v r = x.walkAsks n w r := by
  rw [same, same_phase phase]

theorem toLegB_junctions {w : WalkUnit} {f : Frame} {fs : List Frame} (phase : w.phase = .junctions)
    (stack : w.stack = f :: fs) :
    w.toLegB = { w with stack := { f with leg := .b, list := JunctionList.empty } :: fs } := by
  simp only [WalkUnit.toLegB, stack, ← phase]

/-- Settles O39: a leg done starts rounds, one that fails is flagged and passed over, and a junction closed is a
frame popped. -/
theorem legEndsMoveTheWalk : Obligations.LegEndsMoveTheWalk := by
  unfold Obligations.LegEndsMoveTheWalk
  intro n t h i byte acks bytes j rest f g fs c stages s flight leg requester phase walking inv arbiter w fresh finishes failed
  have ordered : s.table.ascends := inv.ordered
  have target : t.request.target = h := by rw [leg]; rfl
  have runs : w.phase ≠ .idle := by simp only [w, phase]; exact nofun
  have phase' (x : State) (walk : (x.col n).walk = w) : ((x.legFlagged n h).col n).walk.phase = .junctions := by
    rw [legFlagged_col]
    exact (congrArg WalkUnit.phase walk).trans phase
  have stack' (x : State) (walk : (x.col n).walk = w) (stack : w.stack = f :: fs) :
      ((x.legFlagged n h).col n).walk.stack = f :: fs := by
    rw [legFlagged_col]
    exact (congrArg WalkUnit.stack walk).trans stack
  have fails (x : State) (r : AttemptResult) {engine : Engine} (col : x.col n = { s.col n with engine })
      (ascends : x.table.ascends) :
      failed x (.next (lineGrant n (handResult n t (t.failedReport r) (x.modEngine n Engine.rest)))) := by
    have walk : (x.col n).walk = (s.col n).walk := by rw [col]
    have arbiter' : ((x.legFlagged n h).col n).arbiter = .walking := legFlagged_arbiter (by rw [col]; exact arbiter)
    have notDone := failedReport_result t r
    rw [handResult_walks requester walk runs, walkResult_junctions phase leg, ← walk]
    refine ⟨fun a stack => ?_, fun b => ?_, fun zero => ?_⟩
    · rw [a, junctionResult_passed_a notDone, openLegB, walks_modWalk, walks_asks arbiter',
        toLegB_junctions (phase' x walk) (stack' x walk stack)]
    · rw [b, junctionResult_passed_b notDone, closeLegs, walks_modWalk, walks_asks arbiter', same_phase (phase' x walk)]
    · rw [zero, junctionResult_stuck notDone]
      exact enterFinishing_goesOn arbiter' (legFlagged_ascends ascends) _
  refine ⟨fun attempting all => ?_, fun attempting within given missing last => ?_, fun closing ends last => ?_⟩
  · have result : t.request.result acks bytes = { outcome := .done, failedByte := none, bytesRead := none, bitTimes := 20 } := by
      rw [leg, all, result_leg]
    have taken := execAttemptEnd_done attempting flight result rfl
    rw [handResult_walks requester (handed_walk _ _ _ _) runs, walkResult_junctions phase leg] at taken
    have arbiter' (r : AttemptResult) (stages : List WireStage) : ((s.handed n r stages).col n).arbiter = .walking :=
      (handed_arbiter _ _ _ _).trans arbiter
    refine ⟨fun opens => ?_, fun zero stack => ?_, fun zero stack => ?_⟩
    · have notZero : byte ≠ 0x00 := by
        obtain rfl | rfl := opens
        · decide
        · decide
      rw [taken, junctionResult_opened notZero rfl, startRounds_walks (arbiter' _ _)]
      rfl
    · have root : ({ w with stack := w.stack.tail } : WalkUnit).stack = [] := congrArg List.tail stack
      rw [zero, junctionResult_closed rfl] at taken
      refine ⟨fun left => ?_, fun none => ?_⟩
      · rw [taken, takeJunction_opens (arbiter' _ _) (by rw [list_root root]; exact left) (by rw [root]; exact Nat.zero_lt_two),
          list_root root, withList_root root, root]
        exact congrArg Host.Outcome.next (walkAsks_junctions phase rfl)
      · rw [taken, takeJunction_root root none]
        exact enterFinishing_goesOn (arbiter' _ _) ordered _
    · have above : ({ w with stack := w.stack.tail } : WalkUnit).stack = [g] := congrArg List.tail stack
      rw [zero, junctionResult_closed rfl] at taken
      refine ⟨fun left => ?_, fun none leg => ?_, fun none leg => ?_⟩
      · rw [taken, takeJunction_opens (arbiter' _ _) (by rw [list_frame above]; exact left) (by rw [above]; exact Nat.one_lt_two),
          list_frame above, withList_frame above]
        exact congrArg Host.Outcome.next (walkAsks_junctions phase rfl)
      · rw [taken, takeJunction_done (by rw [list_frame above]; exact none), segmentDone_toLegB (arbiter' _ _) above leg]
        exact congrArg Host.Outcome.next (walkAsks_junctions phase rfl)
      · rw [taken, takeJunction_done (by rw [list_frame above]; exact none), segmentDone_closes (arbiter' _ _) above leg]
        exact congrArg Host.Outcome.next (walkAsks_junctions phase (by rw [← above]))
  · have result := result_leg_missing h byte bytes within given missing
    rw [← leg] at result
    have taken := execAttemptEnd_failed attempting flight result nofun
      (refusedOffset_other (by rw [leg]; exact nofun) _) (attempts_spent last)
    rw [taken, target]
    exact fails _ _ ((handed_col _ _ _ _).trans (by rw [countLineError_col])) (inv.countLineError _).ordered
  · obtain ⟨r, _, taken⟩ := exec_closingEnds ends closing flight (attempts_spent last)
    rw [taken]
    exact fails _ r (closed_col _ _ _) ordered

end Sys2Proof.Machine
end

section
/-!
The opening RELEASE (O35) and the BIND (O36): entries turned AWAY, entries written, and what the walk places after them
(R93, R94, R98, R99).
-/

namespace Sys2Proof.Machine

/-! ## The opening RELEASE (R93, R94) -/

/-- R119, R129: the state in which the entries of a lane have turned AWAY, and ROSTER has told how many. -/
def State.turned (s : State) (n : Lane) : State :=
  { s with
    table :=
      { entries := s.table.entries.map fun e =>
          if e.key.lane = n ∧ e.state ≠ .away then { e with state := .away, name := none, slotRef := none, miss := 0 }
          else e
        away := s.table.away ++ ((s.table.ofLane n).filter fun e => e.state != .away).map (·.key) }
    port := { s.port with
      notices := rosterIn n 0 0 ((s.table.ofLane n).filter fun e => e.state != .away).length s.port.notices } }

section

variable {n : Lane} {x : State} {w : WalkUnit} {p : TransactionReport}

theorem turnAway_turned (n : Lane) (s : State) : turnAway n s = s.turned n := by
  rw [turnAway_eq, turnAway_table, List.filter_congr fun e _ => bound_eq e]
  rfl

theorem turned_withColumn (x : State) (n : Lane) (c : Column) :
    (x.withColumn n c).turned n = (x.turned n).withColumn n c := rfl

theorem turnAway_walks (x : State) (n : Lane) (w : WalkUnit) : turnAway n (x.walks n w) = (x.turned n).walks n w :=
  turnAway_turned n (x.walks n w)

/-- R107, R119: once its entries have turned AWAY, a lane has no junction left to open. -/
theorem turned_opensNone (x : State) (n : Lane) : (x.turned n).opensNone n none := by
  intro y mem opened
  obtain ⟨e, _, rfl⟩ := List.mem_map.mp mem
  obtain ⟨lane, present, _⟩ := opened
  by_cases own : e.key.lane = n ∧ e.state ≠ .away
  · rw [if_pos own] at present
    cases present
  · rw [if_neg own] at present lane
    exact absurd ⟨lane, by rw [present]; exact nofun⟩ own

theorem turned_ascends (ordered : x.table.ascends) : (x.turned n).table.ascends := by
  refine List.pairwise_map.mpr (ordered.imp fun {a b} ahead => ?_)
  have key (e : Entry) : (if e.key.lane = n ∧ e.state ≠ .away then
      ({ e with state := .away, name := none, slotRef := none, miss := 0 } : Entry) else e).key = e.key := by
    split <;> rfl
  rw [key, key]
  exact ahead

theorem walkResult_releasing {t : Transaction} (phase : w.phase = .releasing) (p : TransactionReport) :
    walkResult n t p (x.walks n w) = openingResult n p (x.walks n w) := by
  simp only [walkResult, walks_col, phase]

/-- R94: an opening RELEASE that is not disturbed opens the root's rounds. -/
theorem openingResult_opens (arbiter : (x.col n).arbiter = .walking) (calm : p.disturbed = false) :
    lineGrant n (openingResult n p (x.walks n w)) =
      (x.turned n).walkAsks n { w with failedInRow := 0 }.nextRound enrolRequest := by
  have opens : openingResult n p (x.walks n w) = startRounds n ((x.turned n).walks n w) := by
    simp only [openingResult, calm, Bool.false_eq_true, if_false, turnAway_walks]
  rw [opens]
  exact startRounds_walks (x := x.turned n) arbiter w

section

variable (disturbed : p.disturbed = true)
include disturbed

theorem openingResult_repeats (arbiter : (x.col n).arbiter = .walking) (below : w.releases + 1 ≤ x.settings.retryLimit) :
    lineGrant n (openingResult n p (x.walks n w)) =
      x.walkAsks n { w with releases := w.releases + 1 } (releaseRequest 31) := by
  have again : openingResult n p (x.walks n w) =
      placeRequest n .procedure (releaseRequest 31) (x.walks n { w with releases := w.releases + 1 }) := by
    have within : ((x.walks n { w with releases := w.releases + 1 }).col n).walk.releases ≤
        (x.walks n w).settings.retryLimit := by
      rw [walks_col]
      exact below
    simp only [openingResult, disturbed, if_true, walks_modWalk, within]
    rfl
  rw [again, walks_asks arbiter]

/-- R93, R106, R108: with its opening RELEASE disturbed too often a walk ends, its lane's entries AWAY. -/
theorem openingResult_ends (arbiter : (x.col n).arbiter = .walking) (above : x.settings.retryLimit < w.releases + 1) :
    lineGrant n (openingResult n p (x.walks n w)) =
      (x.turned n).walkRests n
        { w with
          phase := .finishing, stack := [], root := JunctionList.empty, releases := w.releases + 1, binding := none
          record := { w.record with reasons := { w.record.reasons with lineFault := true } } } := by
  have ends : openingResult n p (x.walks n w) = enterFinishing n ((x.turned n).walks n
      { w with
        releases := w.releases + 1
        record := { w.record with reasons := { w.record.reasons with lineFault := true } } }) := by
    have beyond : ¬((x.walks n { w with releases := w.releases + 1 }).col n).walk.releases ≤
        (x.walks n w).settings.retryLimit := by
      rw [walks_col]
      exact Nat.not_le.mpr above
    simp only [openingResult, disturbed, if_true, walks_modWalk, beyond, if_false, stopWalk, turnAway_walks, noteReason]
    rfl
  rw [ends, enterFinishing, walks_modWalk]
  exact (congrArg (lineGrant n) (finishNext_ends (s := (x.turned n).walks n _) (turned_opensNone x n))).trans
    (walks_ends (x := x.turned n) arbiter _)

end

end

/-! ## The walk's end does not depend on where the walk unit stood (R108) -/

theorem toldNaming_same {s u : State} (states : SameStates s u) (t : State) : toldNaming s t = toldNaming u t := by
  simp only [toldNaming, causedByTransition_congr states (SameStates.refl t)]

theorem walkEnded_emptied (x : State) (n : Lane) (c : Column) (p : WalkPhase) :
    (x.withColumn n { c with walk := { c.walk.emptied with phase := p } }).walkEnded n = (x.withColumn n c).walkEnded n := by
  have states : SameStates (x.withColumn n { c with walk := { c.walk.emptied with phase := p } }) (x.withColumn n c) := by
    rw [← withColumn_withColumn x n { c with walk := { c.walk.emptied with phase := p } } c]
    exact withColumn_sameStates (by rw [withColumn_col])
  simp only [State.walkEnded, withColumn_col, withColumn_withColumn, toldNaming_same states]
  rfl

/-- R79: the opening RELEASE has one attempt. -/
theorem opening_spent {t : Transaction} (release : t.request = releaseRequest 31) (first : 1 ≤ t.attempt) :
    ¬t.attempt < t.allowed := by
  have one : t.allowed = 1 := by simp [Transaction.allowed, release, releaseRequest, Config.allHandle]
  omega

/-- Settles O35: the two ways to the root's rounds by one argument, and the two ways on from a disturbed release. -/
theorem openingReleaseTurnsAway : Obligations.OpeningReleaseTurnsAway := by
  unfold Obligations.OpeningReleaseTurnsAway
  intro n t o acks bytes c stages s flight release requester first phase arbiter w away
  have spent := opening_spent release first
  have runs : w.phase ≠ .idle := by simp only [w, phase]; exact nofun
  refine ⟨fun attempting nobody => ?_, fun closing ends latest cause => ?_⟩
  · have none : s.table.find ⟨n, t.request.target⟩ = none := by rw [release]; exact nobody
    have opens (r : AttemptResult) (p : TransactionReport) (calm : p.disturbed = false) :
        lineGrant n (handResult n t p ((s.handed n r (t.request.run acks bytes).stages).modEngine n Engine.rest)) =
          away.withColumn n
            { s.col n with
              walk := { w with
                phase := .rounds, failedInRow := 0
                record := { w.record with rounds := min 65535 (w.record.rounds + 1) } }
              engine := (s.col n).engine.goesOn r (t.request.run acks bytes).stages s.settings n .procedure enrolRequest } := by
      rw [handResult_walks requester (handed_walk _ _ _ _) runs, walkResult_releasing phase,
        openingResult_opens ((handed_arbiter _ _ _ _).trans arbiter) calm, State.handed, turned_withColumn,
        State.walkAsks, withColumn_withColumn, withColumn_col]
      rfl
    cases heard : acks.headD false
    · rw [execAttemptEnd_failed attempting flight (result_unheard heard _ _) nofun
        (refusedOffset_other (by rw [release]; exact nofun) _) spent, countLineError_none none, opens _ _ rfl]
      rfl
    · have result := result_release 31 heard bytes
      rw [← release] at result
      rw [execAttemptEnd_done attempting flight result rfl, opens _ _ rfl]
      rfl
  · obtain ⟨r, broken, taken⟩ := exec_closingEnds ends closing flight spent
    have disturbed : (t.failedReport r).disturbed = true := by
      rw [broken, latest]
      obtain rfl | rfl := cause <;> rfl
    rw [handResult_walks requester (closed_walk _ _ _) runs, walkResult_releasing phase] at taken
    refine ⟨fun below => ?_, fun above _ => ?_⟩
    · rw [taken, openingResult_repeats (x := s.closed n stages) disturbed ((closed_arbiter _ _ _).trans arbiter) below,
        State.walkAsks, closed_withColumn, closed_col]
      rfl
    · rw [taken, openingResult_ends (x := s.closed n stages) disturbed ((closed_arbiter _ _ _).trans arbiter) above,
        State.walkRests,
        State.closed, turned_withColumn, withColumn_withColumn, withColumn_col]
      exact congrArg Host.Outcome.next (walkEnded_emptied (s.turned n) n
        { s.col n with
          walk := { w with
            releases := w.releases + 1, record := { w.record with reasons := { w.record.reasons with lineFault := true } } }
          engine := { (s.col n).engine.rest with driven := stages } } .finishing)

/-! ## The BIND (R98, R99) -/

section

variable {n : Lane} {x : State} {w : WalkUnit} {b : PendingBinding} {t : Transaction} {p : TransactionReport}

theorem place_eq (w : WalkUnit) :
    w.place = (w.stack.length, ((w.stack.head?).map Frame.junction).getD 0, (w.stack.head?).map Frame.leg) := by
  cases stack : w.stack <;> simp [WalkUnit.place, stack]

theorem addJunction_junction (junction : b.cls = 1) :
    w.addJunction b = w.withList { w.list with handles := insertHandle b.handle w.list.handles } := if_pos junction

theorem addJunction_leaf (leaf : ¬b.cls = 1) : w.addJunction b = w := if_neg leaf

theorem walkResult_bind (phase : w.phase = .binding) (binding : w.binding = some b) (call : t.request.call = .bind)
    (p : TransactionReport) : walkResult n t p (x.walks n w) = bindResult n b p (x.walks n w) := by
  simp only [walkResult, walks_col, phase, bindingResult, binding, call]

/-- R98: a BIND ended DONE writes the entry, and the next round's ENROL is granted. -/
theorem bindResult_done (arbiter : (x.col n).arbiter = .walking) (done : p.result = .done) (w : WalkUnit) :
    lineGrant n (bindResult n b p (x.walks n w)) =
      (x.modTable (writeEntry n b w)).walkAsks n (w.bound b).nextRound enrolRequest := by
  have writes : bindResult n b p (x.walks n w) = placeRound n ((x.modTable (writeEntry n b w)).walks n (w.bound b)) := by
    simp only [bindResult, done, if_true, walks_col, walks_modTable, walks_modWalk]
  rw [writes]
  exact placeRound_walks (x := x.modTable (writeEntry n b w)) arbiter _

/-- R99: a BIND that has failed is followed by a RELEASE to its handle, the binding kept. -/
theorem bindResult_failed (arbiter : (x.col n).arbiter = .walking) (failed : p.result ≠ .done) (w : WalkUnit) :
    lineGrant n (bindResult n b p (x.walks n w)) = x.walkAsks n w (releaseRequest b.handle) := by
  have releases : bindResult n b p (x.walks n w) = placeRequest n .procedure (releaseRequest b.handle) (x.walks n w) :=
    if_neg failed
  rw [releases, walks_asks arbiter]

end

theorem result_bind (identity : Identity) (h : Nat) (bytes : List Byte) :
    (bindRequest identity h).result (List.replicate 8 true) bytes =
      { outcome := .done, failedByte := none, bytesRead := none, bitTimes := 74 } :=
  result_sent bytes (given_of_take (k := 8) rfl) (.inl rfl)

/-- R82: the attempts of a BIND are aimed at the handle that it gives. -/
theorem target_bind (identity : Identity) {h : Nat} (within : h ≤ 30) : (bindRequest identity h).target = h := by
  have small : h < 256 := by omega
  simp [LineRequest.target, bindRequest, Nat.mod_eq_of_lt small]

/-- Settles O36: the two kinds of binding differ in the table written and in what the record counts. -/
theorem bindWritesEntry : Obligations.BindWritesEntry := by
  unfold Obligations.BindWritesEntry
  intro n t b k acks bytes c stages s flight bind requester phase binding arbiter w next parent leg listed explored bound
  have call : t.request.call = .bind := by rw [bind]; rfl
  have runs : w.phase ≠ .idle := by simp only [w, phase]; exact nofun
  have result := result_bind b.identity b.handle bytes
  rw [← bind] at result
  have joins : w.addJunction b = explored := by
    have listed_junction (junction : b.cls = 1) (l : JunctionList) :
        listed l = { l with handles := insertHandle b.handle l.handles } :=
      if_pos junction
    have listed_leaf (leaf : ¬b.cls = 1) (l : JunctionList) : listed l = l := if_neg leaf
    simp only [explored]
    split <;> rename_i stack <;> by_cases junction : b.cls = 1
    · rw [addJunction_junction junction, list_root stack, withList_root stack, listed_junction junction]
    · rw [addJunction_leaf junction, listed_leaf junction]
    · rw [addJunction_junction junction, list_frame stack, withList_frame stack, listed_junction junction]
    · rw [addJunction_leaf junction, listed_leaf junction, ← stack]
  have done (attempting : (s.col n).engine.phase.attempting = true) {added refound : Nat} {table : DeviceTable}
      (written : writeEntry n b w s.table = table) (counted : w.record.countBinding b.kind =
        { w.record with added := w.record.added + added, refound := w.record.refound + refound }) :
      next = .next (bound added refound table) := by
    have taken : next = _ := execAttemptEnd_done attempting flight result rfl
    rw [handResult_walks requester (handed_walk _ _ _ _) runs, walkResult_bind phase binding call,
      bindResult_done ((handed_arbiter _ _ _ _).trans arbiter) rfl, State.walkAsks, modTable_withColumn, handed_withColumn,
      WalkUnit.bound, joins, counted] at taken
    rw [taken, ← written, State.modTable_col, handed_col]
    rfl
  refine ⟨fun attempting new => ?_, fun attempting refound => ?_, fun last within =>
    ⟨fun attempting few given missing => ?_, fun closing ends => ?_⟩⟩
  · refine done attempting ?_ (by rw [new]; rfl)
    simp only [writeEntry, new, DeviceTable.insert, newEntry, place_eq]
    rfl
  · refine done attempting ?_ (by rw [refound]; rfl)
    simp only [writeEntry, refound, DeviceTable.refind, DeviceTable.write, Entry.refound, place_eq]
    rfl
  · have result := result_nak t.request k acks bytes (by rw [bind]; exact few) (given_of_getElem? given)
      (missing_of_getElem? missing)
    have taken := execAttemptEnd_failed attempting flight result nofun (refusedOffset_other (by rw [call]; exact nofun) _)
      (attempts_spent last)
    have target : t.request.target = b.handle := by rw [bind, target_bind _ within]
    rw [target, handResult_walks requester ((handed_walk _ _ _ _).trans (by rw [countLineError_col])) runs,
      walkResult_bind phase binding call,
      bindResult_failed ((handed_arbiter _ _ _ _).trans (by rw [countLineError_col]; exact arbiter))
        (failedReport_result _ _)] at taken
    exact taken
  · obtain ⟨r, _, taken⟩ := exec_closingEnds ends closing flight (attempts_spent last)
    rw [handResult_walks requester (closed_walk _ _ _) runs, walkResult_bind phase binding call,
      bindResult_failed ((closed_arbiter _ _ _).trans arbiter) (failedReport_result _ _)] at taken
    exact taken

end Sys2Proof.Machine
end

section
/-!
A winning round (O37): the record looked up, the handle and the entry slot allocated, with or without an eviction, or the walk
stopped (R96, R97, R121 to R123).
-/

namespace Sys2Proof.Machine

/-! ## Allocation (R97, R121 to R123) -/

/-- R121: the lowest handle that no entry holds. -/
theorem lowestFree_least {used : List Nat} {h : Nat} (within : 1 ≤ h ∧ h ≤ 30) (free : h ∉ used)
    (taken : ∀ i < h, 1 ≤ i → i ∈ used) : lowestFree used = some h := by
  obtain ⟨i, rfl⟩ : ∃ i, h = i + 1 := ⟨h - 1, by omega⟩
  rw [lowestFree, List.find?_map, Option.map_eq_some_iff]
  refine ⟨i, List.find?_range_eq_some.mpr ⟨?_, ?_, fun j less => ?_⟩, rfl⟩
  · simpa using free
  · exact List.mem_range.mpr within.2
  · simpa using taken (j + 1) (Nat.succ_lt_succ less) (Nat.le_add_left 1 j)

theorem lowestFree_none {used : List Nat} (taken : ∀ i, 1 ≤ i → i ≤ 30 → i ∈ used) : lowestFree used = none := by
  refine List.find?_eq_none.mpr fun h mem => ?_
  obtain ⟨i, range, rfl⟩ := List.mem_map.mp mem
  have member := taken (i + 1) (Nat.le_add_left 1 i) (List.mem_range.mp range)
  simpa using member

/-- R122: what an entry is held by. -/
theorem held_iff (s : State) (k : EntryKey) :
    s.held k = true ↔ ∃ b, (s.col k.lane).walk.binding = some b ∧ b.kind = .refound ∧ b.handle = k.handle := by
  rw [State.held, beq_iff_eq, WalkUnit.heldHandle]
  cases (s.col k.lane).walk.binding with
  | none => simp
  | some b => by_cases refound : b.kind = .refound <;> simp [refound]

/-- R123: the state after an eviction, counted in the entry's own lane. -/
def State.evicted (s : State) (k : EntryKey) : State :=
  { s with
    table := { entries := s.table.entries.filter fun e => e.key != k, away := s.table.away.filter fun x => x != k }
    port := { s.port with notices := rosterIn k.lane 0 1 0 s.port.notices } }

theorem evict_evicted (k : EntryKey) (s : State) : evict k s = s.evicted k := by
  have same (x : EntryKey) : (!([k].contains x)) = (x != k) := by
    rw [bne, List.contains_cons, List.contains_nil, Bool.or_false]
  rw [evict_eq, raiseRoster_eq]
  simp only [State.modTable, DeviceTable.remove, same]
  rfl

theorem evicted_withColumn (s : State) (k : EntryKey) (n : Lane) (c : Column) :
    (s.withColumn n c).evicted k = (s.evicted k).withColumn n c := rfl

section

variable {n : Lane} {s : State} {h : Nat}

theorem allocateSlot_room (room : s.table.entries.length + s.reservedElsewhere n < 48) : allocateSlot n h s = .given h s :=
  if_pos room

section

variable (full : 48 ≤ s.table.entries.length + s.reservedElsewhere n)
include full

theorem allocateSlot_evicts {k : EntryKey} (first : s.table.away.find? (fun k => !s.held k) = some k) :
    allocateSlot n h s = .given h (s.evicted k) := by
  refine (if_neg (Nat.not_lt.mpr full)).trans ?_
  simp only [first, evict_evicted]

theorem allocateSlot_full (all : ∀ x ∈ s.table.away, s.held x = true) : allocateSlot n h s = .tableFull s := by
  have none : s.table.away.find? (fun k => !s.held k) = none := List.find?_eq_none.mpr fun x mem => by simp [all x mem]
  refine (if_neg (Nat.not_lt.mpr full)).trans ?_
  simp only [none]

end

theorem allocate_lowest (lowest : lowestFree ((s.table.ofLane n).map (·.key.handle)) = some h) :
    allocate n s = allocateSlot n h s := by
  simp only [allocate, lowest]

section

variable (taken : lowestFree ((s.table.ofLane n).map (·.key.handle)) = none)
include taken

/-- R97 step 1, R116: an eviction of the lane's own leaves room for the entry. -/
theorem allocate_own (inv : TableInv s) {k : EntryKey} (away : k ∈ s.table.away)
    (first : s.table.away.find? (fun k => k.lane == n && !s.held k) = some k) :
    allocate n s = .given k.handle (s.evicted k) := by
  have room : (evict k s).table.entries.length + (evict k s).reservedElsewhere n < 48 := by
    have fewer := evict_fewer inv away
    have room := inv.room
    rw [reserved_eq, reservedBy_eq n, ← reservedElsewhere_eq] at room
    rw [evict_elsewhere]
    simp only [Config.tableSlots] at room
    omega
  have slot : allocate n s = allocateSlot n k.handle (evict k s) := by simp only [allocate, taken, first]
  rw [slot, allocateSlot_room room, evict_evicted]

theorem allocate_exhausted (all : ∀ x ∈ s.table.away, x.lane = n → s.held x = true) :
    allocate n s = .handlesExhausted s := by
  have none : s.table.away.find? (fun k => k.lane == n && !s.held k) = none :=
    List.find?_eq_none.mpr fun x mem => by
      by_cases lane : x.lane = n
      · simp [all x mem lane]
      · simp [lane]
  simp only [allocate, taken, none]

end

end

/-! ## A winning round (R96, R98) -/

section

variable {n : Lane} {x : State} {w : WalkUnit} {record : List Byte}

theorem placeBind_walks (arbiter : (x.col n).arbiter = .walking) (b : PendingBinding) (w : WalkUnit) :
    lineGrant n (placeBind n b (x.walks n w)) =
      x.walkAsks n { w with phase := .binding, binding := some b } (bindRequest b.identity b.handle) := by
  rw [placeBind, walks_modWalk, walks_asks arbiter]

theorem winningRound_refound {e : Entry}
    (found : (x.table.ofLane n).find? (fun e => e.identity == identityOf record) = some e)
    (away : e.state = .away) :
    winningRound n record (x.walks n w) =
      placeBind n { identity := identityOf record, cls := record.getD 6 0, handle := e.key.handle, kind := .refound }
        (x.walks n w) := by
  have found' : ((x.walks n w).table.ofLane n).find? (fun e => e.identity == identityOf record) = some e := found
  simp only [winningRound, found', away]
  rfl

theorem winningRound_new (unknown : ∀ e ∈ x.table.ofLane n, e.identity ≠ identityOf record) :
    winningRound n record (x.walks n w) = bindNew n (identityOf record) (record.getD 6 0) (x.walks n w) := by
  have none : ((x.walks n w).table.ofLane n).find? (fun e => e.identity == identityOf record) = none :=
    List.find?_eq_none.mpr fun e mem => by simpa using unknown e mem
  simp only [winningRound, none]
  rfl

/-- R106: a walk that stops goes to FINISHING with its reason noted. -/
theorem stopWalk_goesOn (arbiter : (x.col n).arbiter = .walking) (ordered : x.table.ascends) (reason : WalkReason)
    (w : WalkUnit) :
    x.opensOrEnds n none
      { w with
        phase := .finishing, stack := [], root := JunctionList.empty, binding := none
        record := { w.record with reasons := w.record.reasons.note reason } }
      (.next (lineGrant n (stopWalk n reason (x.walks n w)))) := by
  rw [stopWalk, noteReason, walks_modWalk]
  exact enterFinishing_goesOn arbiter ordered _

theorem bindNew_given {identity : Identity} {cls : Byte} {s u : State} {g : Nat} (given : allocate n s = .given g u) :
    bindNew n identity cls s = placeBind n { identity, cls, handle := g, kind := .new } u := by
  simp only [bindNew, given]

theorem bindNew_exhausted {identity : Identity} {cls : Byte} {s : State} (none : allocate n s = .handlesExhausted s) :
    bindNew n identity cls s = stopWalk n .handlesExhausted s := by
  simp only [bindNew, none]

theorem bindNew_full {identity : Identity} {cls : Byte} {s : State} (none : allocate n s = .tableFull s) :
    bindNew n identity cls s = stopWalk n .tableFull s := by
  simp only [bindNew, none]

theorem same_binding {b : Option PendingBinding} (binding : w.binding = b) : ({ w with binding := b } : WalkUnit) = w := by
  subst binding
  rfl

/-- R99: a failed round of a walk in ROUNDS that has no binding. -/
theorem failedOnce_rounds (phase : w.phase = .rounds) (unbound : w.binding = none) :
    w.failedOnce.nextRound =
      { w with
        failedInRow := w.failedInRow + 1
        record := { w.record with
          failedRounds := min 65535 (w.record.failedRounds + 1), rounds := min 65535 (w.record.rounds + 1) } } := by
  cases w
  cases phase
  cases unbound
  rfl

end

/-- The first of a list that passes a test, by what stands ahead of it. -/
theorem find_earliest {l ahead behind : List EntryKey} {k : EntryKey} {p : EntryKey → Bool} (list : l = ahead ++ k :: behind)
    (passes : p k = true) (early : ∀ y ∈ ahead, p y = false) : l.find? p = some k :=
  List.find?_eq_some_iff_append.mpr ⟨passes, ahead, behind, list, fun y mem => by rw [early y mem]; rfl⟩

/-- Settles O37: what the allocation gives is bound, and what stops the walk is noted; the rest is which of them it is. -/
theorem winningRoundChoosesHandle : Obligations.WinningRoundChoosesHandle := by
  unfold Obligations.WinningRoundChoosesHandle
  intro n t record e k ahead behind h s attempting flight enrol requester phase walking arbiter whole good inv unbound w identity
    result stages asks binds evicted heldKey earliest noted stops next slots unknown lowest allHeld
  let x := s.handed n result stages
  have hx : x = s.handed n result stages := rfl
  have arbiter' : (x.col n).arbiter = .walking := (handed_arbiter _ _ _ _).trans arbiter
  have runs : w.phase ≠ .idle := by simp only [w, phase]; exact nofun
  have taken : next = .next (lineGrant n (winningRound n record (x.walks n w))) := by
    have read := result_enrol (acks := [true]) rfl whole
    rw [if_pos good, ← enrol] at read
    have ended : next = _ := execAttemptEnd_done attempting flight read rfl
    rw [handResult_walks requester (handed_walk _ _ _ _) runs, walkResult_rounds phase, roundResult_won rfl rfl] at ended
    exact ended
  have walks (m : Lane) : ((x.walks n w).col m).walk = (s.col m).walk := by
    by_cases own : m = n
    · subst own
      rw [walks_col]
    · rw [State.walks, withColumn_col_ne _ _ _ _ own, hx, State.handed, withColumn_col_ne _ _ _ _ own]
  have held (y : EntryKey) : (x.walks n w).held y = true ↔ heldKey y := by
    rw [held_iff, walks]
  have free (y : EntryKey) (not : ¬heldKey y) : (x.walks n w).held y = false := by
    rw [← Bool.not_eq_true, held]
    exact not
  have walksInv : TableInv (x.walks n w) := inv.same rfl rfl fun m => .inl (congrArg WalkUnit.binding (walks m))
  have elsewhere : (x.walks n w).table.entries.length + (x.walks n w).reservedElsewhere n = slots := by
    simp only [State.reservedElsewhere, walks]
    rfl
  have asked (y : State) (r : LineRequest) (v : WalkUnit) (settings : y.settings = s.settings) :
      (y.withColumn n
          { s.col n with engine := { (s.col n).engine with handed := some result, driven := stages } }).walkAsks n v r =
        asks r v y := by
    rw [State.walkAsks, withColumn_withColumn, withColumn_col, withColumn_settings, settings]
    rfl
  have stopped (reason : WalkReason) (exits : winningRound n record (x.walks n w) = stopWalk n reason (x.walks n w)) :
      stops (w.record.reasons.note reason) := by
    have unit : ({ noted (w.record.reasons.note reason) with binding := none } : WalkUnit) =
        noted (w.record.reasons.note reason) :=
      same_binding unbound
    obtain ⟨opens, ends⟩ := stopWalk_goesOn arbiter' inv.ordered reason w
    refine ⟨fun e first => ?_, fun nobody => ?_⟩
    · refine (taken.trans (exits ▸ opens e first)).trans ?_
      rw [← unit]
      exact congrArg Host.Outcome.next (asked s _ _ rfl)
    · refine (taken.trans (exits ▸ ends nobody)).trans ?_
      rw [← unit, hx, State.walkRests, handed_withColumn, handed_col]
      rfl
  have given (j : Nat) (y : State) (kind : BindingKind)
      (places : winningRound n record (x.walks n w) = placeBind n { identity, cls := record.getD 6 0, handle := j, kind }
        ((y.withColumn n { s.col n with engine := { (s.col n).engine with handed := some result, driven := stages } }).walks n w))
      (settings : y.settings = s.settings) : next = .next (binds j kind y) := by
    rw [taken, places, placeBind_walks (by rw [withColumn_col]; exact arbiter), asked _ _ _ settings]
  have won (new : unknown) : winningRound n record (x.walks n w) = bindNew n identity (record.getD 6 0) (x.walks n w) :=
    winningRound_new (x := x) new
  have lowest' (low : lowest) : lowestFree (((x.walks n w).table.ofLane n).map (·.key.handle)) = some h := by
    obtain ⟨one, most, none, below⟩ := low
    refine lowestFree_least ⟨one, most⟩ (fun mem => ?_) fun i less positive => ?_
    · obtain ⟨d, own, same⟩ := List.mem_map.mp mem
      exact none d own same
    · obtain ⟨d, own, same⟩ := below i less positive
      exact List.mem_map.mpr ⟨d, own, same⟩
  have taken' (all : allHeld) : lowestFree (((x.walks n w).table.ofLane n).map (·.key.handle)) = none :=
    lowestFree_none fun i one most => List.mem_map.mpr (all i one most)
  refine ⟨fun own same => ⟨fun away => ?_, fun present below => ?_⟩, fun new low room => ?_, fun new low full first => ?_,
    fun new low full all => ?_, fun new none first => ?_, fun new none all => ?_⟩
  · exact given _ s .refound (winningRound_refound (x := x) (lookup_identity inv own same) away) rfl
  · have bound : e.state ≠ .away := by rw [present]; exact nofun
    rw [taken, winningRound_refused (x := x) (lookup_identity inv own same) bound, failedRound_repeats arbiter' below,
      failedOnce_rounds phase unbound]
    exact congrArg Host.Outcome.next (asked s _ _ rfl)
  · refine given h s .new ((won new).trans (bindNew_given ?_)) rfl
    rw [allocate_lowest (lowest' low), allocateSlot_room (s := x.walks n w) (by rw [elsewhere]; exact room)]
    rfl
  · obtain ⟨list, _, notHeld, early⟩ := first
    refine given h evicted .new ((won new).trans (bindNew_given ?_)) rfl
    rw [allocate_lowest (lowest' low), allocateSlot_evicts (s := x.walks n w) (by rw [elsewhere]; exact full)
      (find_earliest list (by simp [free k notHeld]) fun y mem => by simp [(held y).mpr (early y mem trivial)])]
    rfl
  · refine stopped .tableFull ((won new).trans (bindNew_full ?_))
    rw [allocate_lowest (lowest' low), allocateSlot_full (s := x.walks n w) (by rw [elsewhere]; exact full)
      fun y mem => (held y).mpr (all y mem)]
  · obtain ⟨list, lane, notHeld, early⟩ := first
    refine given k.handle evicted .new ((won new).trans (bindNew_given ?_)) rfl
    rw [allocate_own (taken' none) walksInv (k := k) (by rw [show (x.walks n w).table.away = _ from list]; simp)
      (find_earliest list (by simp [lane, free k notHeld]) fun y mem => ?_)]
    · rfl
    · by_cases own : y.lane = n
      · simp [(held y).mpr (early y mem own)]
      · simp [own]
  · refine stopped .handlesExhausted ((won new).trans (bindNew_exhausted ?_))
    exact allocate_exhausted (taken' none) fun y mem lane => (held y).mpr (all y mem lane)

end Sys2Proof.Machine
end
